-- ==== Sys2Proof/Word.lean ====
section
/-! DEFINITION. The widths and sizes of 00_scope.md R9, each under its name there, and the values CRC8-TXN handles in
them (R14: every value is unsigned). They fix the shape of the data, so they stand here and not in `Params`. -/

namespace Sys2Proof

namespace Config

/-- `ADDR_BITS` (R9). -/
abbrev addrBits : Nat := 7

/-- `OPCODE_BITS` (R9). -/
abbrev opcodeBits : Nat := 16

/-- `CRC_INPUT_BYTES`, for each word (R9). -/
abbrev crcInputBytes : Nat := 2

/-- `WORD_BYTES`: 2 data bytes and 1 checksum byte (R9). -/
abbrev wordBytes : Nat := 3

/-- `MAX_WORDS` (R9). -/
abbrev maxWords : Nat := 3

end Config

/-- A byte of the bus or of a register (R14). -/
abbrev Byte := BitVec 8

/-- A 16-bit value: a response value, CHECKSUM's operand (R14). -/
abbrev Word := BitVec 16

/-- An opcode of the sensor (R9). -/
abbrev Opcode := BitVec Config.opcodeBits

/-- A device address of the two-wire bus (20_memory.md R51: 7 bits, 0x00 to 0x7F). -/
abbrev BusAddr := BitVec Config.addrBits

/-- The host request word `HOSTREQ` (30_encoding.md R80: 20 bits). -/
abbrev ReqWord := BitVec 20

end Sys2Proof
end

