-- ==== Sys2Proof/Syntax.lean ====
section
/-! DEFINITION. The instructions of CRC8-TXN: the six host requests of 30_encoding.md R80 and the five sensor
commands of R82, one constructor for each row of the opcode table. -/

namespace Sys2Proof

/-- The host operations CTL runs (R80): what `CUROP` names (10_state.md R26). -/
inductive HostOp where
  | construct
  | identify
  | selfTest
  | measureAirQuality
  | measureRawSignals
  | checksum
deriving DecidableEq, Repr, Inhabited

/-- The sensor commands TXN runs (R82): what `CMDSEL` names (10_state.md R21). -/
inductive Command where
  | getSerialId
  | measureTest
  | initAirQuality
  | measureAirQuality
  | measureRawSignals
deriving DecidableEq, Repr, Inhabited

/-- One constructor for each row of the opcode table. The first six are host requests, given to CTL on the host
port. The last five are the commands TXN executes on the bus, given to it by CTL through `CMDSEL` only (R89). -/
inductive Instr where
  /-- `construct`, HOSTREQ op 0x0 (R170). -/
  | construct
  /-- `identify`, HOSTREQ op 0x1 (R173). -/
  | identify
  /-- `self_test`, HOSTREQ op 0x2 (R175). -/
  | selfTest
  /-- `measure_air_quality`, HOSTREQ op 0x3 (R178). -/
  | measureAirQuality
  /-- `measure_raw_signals`, HOSTREQ op 0x4 (R183). -/
  | measureRawSignals
  /-- `checksum`, HOSTREQ op 0x5, with its operand `data[15:0]` (R112). -/
  | checksum (data : Word)
  /-- `GET_SERIAL_ID`, a CMD frame (R82). -/
  | cmdGetSerialId
  /-- `MEASURE_TEST`, a CMD frame (R82). -/
  | cmdMeasureTest
  /-- `INIT_AIR_QUALITY`, a CMD frame (R82). -/
  | cmdInitAirQuality
  /-- `MEASURE_AIR_QUALITY`, a CMD frame (R82). -/
  | cmdMeasureAirQuality
  /-- `MEASURE_RAW_SIGNALS`, a CMD frame (R82). -/
  | cmdMeasureRawSignals
deriving DecidableEq, Repr, Inhabited

/-- The words an instruction is spelled with (30_encoding.md R70): a host request is one 20-bit word, a command is
a byte sequence on the bus. -/
inductive Frame where
  /-- A `HOSTREQ` word on the host port (R80). -/
  | hostReq (w : ReqWord)
  /-- A `CMD` frame: the bytes in bus order (R71). -/
  | cmd (bytes : List Byte)
deriving DecidableEq, Repr, Inhabited

end Sys2Proof
end

