-- ==== Sys2Proof/Config.lean ====
section
/-! DEFINITION. The implementation parameters of 00_scope.md R9 and the free values of 93_implementation_defined.md. The
parameters a model may be instantiated with (10_state.md R39, U8, U9, 70_reset_and_hazards.md R257) are fields of `Params`,
which a machine carries unchanged; R9's settings are their defaults. The free values have no body. -/

namespace Sys2Proof

/-- When `CAL` becomes `Calibrating` relative to the init command: `CAL_SET_POINT` (R9, 42_operations.md R179). -/
inductive CalSetPoint where
  | beforeInit
  | afterInitOk
deriving DecidableEq, Repr, Inhabited

/-- `CRC_BITORDER` (R9): input and output unreflected, the one order the spec describes. -/
inductive BitOrder where
  | msbFirst
deriving DecidableEq, Repr, Inhabited

/-- The parameters of CRCGEN (R9, 40_crc8.md R101). -/
structure CrcParams where
  /-- `CRC_POLY`. -/
  poly : Byte
  /-- `CRC_INIT`. -/
  init : Byte
  /-- `CRC_XOROUT`. -/
  xorOut : Byte
deriving DecidableEq, Repr, Inhabited

/-- The document's settings (R9, R101). -/
def CrcParams.default : CrcParams where
  poly := 0x31#8
  init := 0xFF#8
  xorOut := 0x00#8

/-- The parameters of R9. They are arguments of the step relation (R39); the machine carries them in one field that no
step changes. -/
structure Params where
  /-- `DEV_ADDR` (R51). -/
  devAddr : BusAddr
  /-- `CRC_POLY`, `CRC_INIT`, `CRC_XOROUT`. -/
  crc : CrcParams
  /-- `SETTLE_DEFAULT_MS` (R254, R257). -/
  settleDefaultMs : Nat
  /-- `SETTLE_SELFTEST_MS` (R254, R257). -/
  settleSelftestMs : Nat
  /-- `SELFTEST_EXPECTED` (R77). -/
  selftestExpected : Word
  /-- `SENSOR_RANGE_MAX`, the sensor's own clamp. No rule of the block uses it (R181, U3). -/
  sensorRangeMax : Nat
  /-- `OP_GET_SERIAL_ID`. -/
  opGetSerialId : Opcode
  /-- `OP_MEASURE_TEST`. -/
  opMeasureTest : Opcode
  /-- `OP_INIT_AIR_QUALITY`. -/
  opInitAirQuality : Opcode
  /-- `OP_MEASURE_AIR_QUALITY`. -/
  opMeasureAirQuality : Opcode
  /-- `OP_MEASURE_RAW_SIGNALS`. -/
  opMeasureRawSignals : Opcode
  /-- `CAL_SET_POINT`. -/
  calSetPoint : CalSetPoint
  /-- `TRANSPORT_MAY_HANG`. -/
  transportMayHang : Bool
deriving DecidableEq, Repr, Inhabited

/-- The settings of R9. The opcode values are PRESUMED: the spec itself takes them from general knowledge
(92_eei_decisions.md D4). -/
def Params.default : Params where
  devAddr := 0x58#7
  crc := CrcParams.default
  settleDefaultMs := 10
  settleSelftestMs := 250
  selftestExpected := 0xD400#16
  sensorRangeMax := 60000
  opGetSerialId := 0x3682#16
  opMeasureTest := 0x2032#16
  opInitAirQuality := 0x2003#16
  opMeasureAirQuality := 0x2008#16
  opMeasureRawSignals := 0x2050#16
  calSetPoint := .beforeInit
  transportMayHang := true

namespace Config

/-- `CRC_BITORDER` (R9): `crcBitStep` is written for it. -/
def crcBitOrder : BitOrder := .msbFirst

/-- `BUS_CLASS` in kHz (R9, R255). Informative: no rule uses it. -/
def busClassKhz : Nat := 100

/-- How many moves of the sequencer one instruction may make before the step ends. No operation needs more than 13
(the first MEASURE_AIR_QUALITY); the bound only makes the recursion structural. DESIGN CHOICE. -/
def moveBudget : Nat := 32

/-- FREE VALUE: a byte the spec calls "not architectural" (R31, R216 for `RESP.DATA`; R21, R30 for `CRC.C`). -/
opaque freeByte : Nat → Byte

/-- FREE VALUE: `DESC.OPCODE` while no request runs (R21, 93_implementation_defined.md U16). -/
opaque freeWord : Nat → Word

/-- FREE VALUE: a 2-bit scratch register while no request runs (`DESC.NWORDS`, `WIDX`; U16). -/
opaque freeTwoBits : Nat → BitVec 2

/-- FREE VALUE: `DESC.DELAY` while no request runs (U16). -/
opaque freeDelay : Nat → Nat

/-- FREE VALUE: the contents of `RXBUF` while no request runs (U16), before its bound of 9 bytes (R28). -/
opaque freeBytes : Nat → List Byte

/-- FREE VALUE: `CRC.BIT` while no request runs (U16). -/
opaque freeThreeBits : Nat → BitVec 3

/-- FREE VALUE: `CRC.BYTE` while no request runs (U16). -/
opaque freeBit : Nat → BitVec 1

/-- FREE VALUE: `CUROP` while no request runs (R26, U16). -/
opaque freeHostOp : Nat → Option HostOp

end Config

end Sys2Proof
end

