-- ==== Sys2Proof/Machine/Operands.lean ====
section
/-! DEFINITION. The operand forms of CRC8-TXN (30_encoding.md section 2): byte order, the splitting of a read
answer into response words, and the derived views of a result. -/

namespace Sys2Proof

/-- `value[15:8]`, the byte that is first on the bus (20_memory.md R53). -/
def hiByte (v : Word) : Byte := v.extractLsb' 8 8

/-- `value[7:0]`, the byte that is second on the bus (R53). -/
def loByte (v : Word) : Byte := v.extractLsb' 0 8

/-- `be16(hi, lo) = hi * 256 + lo` (00_scope.md R14). -/
def be16 (hi lo : Byte) : Word := hi ++ lo

/-- `CMD(op) = [op[15:8], op[7:0]]` (R71): what a BusWrite carries. -/
def cmdBytes (op : Opcode) : List Byte := [hiByte op, loByte op]

/-- The operand of CHECKSUM as the byte pair CRCGEN consumes, high byte first (R79). -/
def dataBytes (data : Word) : List Byte := [hiByte data, loByte data]

/-- Word `i` of a read answer: bytes `3i`, `3i+1` and `3i+2` (R55, R73). It is read only of an answer that holds the
word (R139), so the default byte is never used. -/
def wordAt (s : List Byte) (i : Nat) : Byte × Byte × Byte :=
  (s.getD (Config.wordBytes * i) 0#8, s.getD (Config.wordBytes * i + 1) 0#8, s.getD (Config.wordBytes * i + 2) 0#8)

/-- `words(s, n)`: the `n` response words of a read answer in bus order (R73). -/
def wordsOf (s : List Byte) (n : Nat) : List (Byte × Byte × Byte) := (List.range n).map (wordAt s)

/-- `result(s, n)`: the value bytes of the `n` words in order, the checksum bytes removed (R74). -/
def resultOf (s : List Byte) (n : Nat) : List Byte := (wordsOf s n).flatMap fun w => [w.1, w.2.1]

/-- The two fields of a Measurement, 16 bits each (R75). -/
structure Measurement where
  co2Ppm : Word
  tvocPpb : Word
deriving DecidableEq, Repr

/-- Measurement decode: `co2_ppm` is the first word, `tvoc_ppb` the second, with no clamping (R75, R181). -/
def measurementOf (r : List Byte) : Measurement where
  co2Ppm := be16 (r.getD 0 0#8) (r.getD 1 0#8)
  tvocPpb := be16 (r.getD 2 0#8) (r.getD 3 0#8)

/-- The value of the self-test word (R77). -/
def selfTestValue (r : List Byte) : Word := be16 (r.getD 0 0#8) (r.getD 1 0#8)

/-- The derived 48-bit view of the serial identifier (R54, R76). The block never uses it. -/
def id48 (r : List Byte) : BitVec 48 :=
  be16 (r.getD 0 0#8) (r.getD 1 0#8) ++ be16 (r.getD 2 0#8) (r.getD 3 0#8) ++ be16 (r.getD 4 0#8) (r.getD 5 0#8)

end Sys2Proof
end

