-- ==== Sys2Proof/Decode.lean ====
section
/-! DEFINITION. Decoding and encoding of the host request word (30_encoding.md R80, R84) and of the command frame
(R71, R82, R85). Decoding is total and rejects by name. -/

namespace Sys2Proof

/-- Why a frame spells no instruction. -/
inductive DecodeReject where
  /-- A HOSTREQ with `op` in 0x6 to 0xF (R84). -/
  | reservedOp
  /-- A HOSTREQ other than CHECKSUM with `data ≠ 0` (R84). -/
  | nonZeroData
  /-- A byte sequence that is not 2 bytes long, so no CMD frame (R71, R87). -/
  | frameLength
  /-- A 16-bit value that is none of the five opcodes of R82 (R85). -/
  | unknownOpcode
deriving DecidableEq, Repr

/-- `op = req[19:16]` (R80). -/
def reqOp (w : ReqWord) : BitVec 4 := w.extractLsb' 16 4

/-- `data = req[15:0]` (R80). -/
def reqData (w : ReqWord) : Word := w.extractLsb' 0 16

/-- A HOSTREQ from its two fields (R80). -/
def reqWord (op : BitVec 4) (data : Word) : ReqWord := op ++ data

/-- A request without an operand: its `data` must be 0 (R80, R84). -/
def bareRequest (data : Word) (i : Instr) : Except DecodeReject Instr :=
  if data = 0#16 then .ok i else .error .nonZeroData

/-- The host request a HOSTREQ word spells (R80), or why it spells none (R84). -/
def decodeHostReq (w : ReqWord) : Except DecodeReject Instr :=
  match (reqOp w).toNat with
  | 0 => bareRequest (reqData w) .construct
  | 1 => bareRequest (reqData w) .identify
  | 2 => bareRequest (reqData w) .selfTest
  | 3 => bareRequest (reqData w) .measureAirQuality
  | 4 => bareRequest (reqData w) .measureRawSignals
  | 5 => .ok (.checksum (reqData w))
  | _ => .error .reservedOp

/-- The opcode parameter of a command (R82). -/
def Params.opcode (p : Params) : Command → Opcode
  | .getSerialId => p.opGetSerialId
  | .measureTest => p.opMeasureTest
  | .initAirQuality => p.opInitAirQuality
  | .measureAirQuality => p.opMeasureAirQuality
  | .measureRawSignals => p.opMeasureRawSignals

/-- The five commands in the order of the table of R82. -/
def Command.all : List Command :=
  [.getSerialId, .measureTest, .initAirQuality, .measureAirQuality, .measureRawSignals]

/-- The command a 16-bit opcode names, if any (R82). -/
def commandOf (p : Params) (op : Opcode) : Option Command := Command.all.find? fun c => p.opcode c == op

/-- The instruction that executes a command. -/
def Instr.ofCommand : Command → Instr
  | .getSerialId => .cmdGetSerialId
  | .measureTest => .cmdMeasureTest
  | .initAirQuality => .cmdInitAirQuality
  | .measureAirQuality => .cmdMeasureAirQuality
  | .measureRawSignals => .cmdMeasureRawSignals

/-- The command a CMD frame spells: 2 bytes, big-endian, one of the five opcodes (R71, R82, R85). -/
def decodeCmd (p : Params) : List Byte → Except DecodeReject Instr
  | [hi, lo] =>
    match commandOf p (be16 hi lo) with
    | some c => .ok (.ofCommand c)
    | none => .error .unknownOpcode
  | _ => .error .frameLength

/-- The instruction a frame spells under the parameters `p`. -/
def decode (p : Params) : Frame → Except DecodeReject Instr
  | .hostReq w => decodeHostReq w
  | .cmd bytes => decodeCmd p bytes

/-- The words of an instruction under the parameters `p` (R71, R80, R82). -/
def encode (p : Params) : Instr → Frame
  | .construct => .hostReq (reqWord 0x0#4 0#16)
  | .identify => .hostReq (reqWord 0x1#4 0#16)
  | .selfTest => .hostReq (reqWord 0x2#4 0#16)
  | .measureAirQuality => .hostReq (reqWord 0x3#4 0#16)
  | .measureRawSignals => .hostReq (reqWord 0x4#4 0#16)
  | .checksum data => .hostReq (reqWord 0x5#4 data)
  | .cmdGetSerialId => .cmd (cmdBytes p.opGetSerialId)
  | .cmdMeasureTest => .cmd (cmdBytes p.opMeasureTest)
  | .cmdInitAirQuality => .cmd (cmdBytes p.opInitAirQuality)
  | .cmdMeasureAirQuality => .cmd (cmdBytes p.opMeasureAirQuality)
  | .cmdMeasureRawSignals => .cmd (cmdBytes p.opMeasureRawSignals)

/-- The frame of a row of the opcode table from its bits. A row of 16 bits is a CMD frame: the bytes as they go on the
bus, the high byte of the opcode first (R71). A row of 20 bits, counted as 24 in whole bytes, is a HOSTREQ word. -/
def frameOfTableWord (nbits w : Nat) : Option Frame :=
  if nbits = 16 then
    if w < 2 ^ 16 then some (.cmd (cmdBytes (BitVec.ofNat 16 w))) else none
  else if nbits = 20 ∨ nbits = 24 then
    if w < 2 ^ 20 then some (.hostReq (BitVec.ofNat 20 w)) else none
  else none

/-- The instruction the decoder reads from a row's bits, under the opcodes the table lists. -/
def decodeTableWord (nbits w : Nat) : Option Instr :=
  match frameOfTableWord nbits w with
  | some f => (decode Params.default f).toOption
  | none => none

end Sys2Proof
end

