-- ==== Sys2Proof/Machine/State.lean ====
section
/-! DEFINITION. The state of CRC8-TXN as plain data (10_state.md R20 to R39), the outside world it meets at its two
ports, the state after reset (R38), and the ways a step can stop. -/

namespace Sys2Proof.Machine

/-- `LIFE` (R22). -/
inductive Life where
  | unbound
  | ready
deriving DecidableEq, Repr, Inhabited

/-- `CAL` (R23). -/
inductive Cal where
  | uninitialized
  | calibrating
deriving DecidableEq, Repr, Inhabited

/-- `PHASE`, the counterpart of a program counter (R24). -/
inductive Phase where
  | idle
  | scan
  | write
  | settle
  | read
  | verify
  | finish
deriving DecidableEq, Repr, Inhabited

/-- `DESC`, the descriptor of the current command (R27). -/
structure Desc where
  /-- `DESC.OPCODE`, 16 bits. -/
  opcode : Opcode
  /-- `DESC.NWORDS`, 2 bits. -/
  nwords : BitVec 2
  /-- `DESC.DELAY`, in milliseconds. -/
  delay : Nat
deriving DecidableEq, Repr

/-- The stage a TransportError records (R31). -/
inductive Stage where
  | write
  | read
  | readLength
deriving DecidableEq, Repr, Inhabited

/-- The values of `RESP.INFO` (R31). -/
inductive Info where
  | none
  /-- The lowest failing word index of a ChecksumMismatch. -/
  | word (i : BitVec 2)
  /-- The word an UnexpectedResponseValue received. -/
  | value (v : Word)
  /-- Where a TransportError arose. -/
  | stage (st : Stage)
deriving DecidableEq, Repr, Inhabited

/-- The five error kinds (60_exceptions.md R210, R211). -/
inductive ErrKind where
  | deviceNotFound
  | checksumMismatch
  | sequencingViolation
  | unexpectedResponseValue
  | transportError
deriving DecidableEq, Repr, Inhabited

/-- How an operation's sequence ended: the `return r` or the `raise E(info)` of its pseudocode (R15). -/
inductive Verdict where
  | ok (bytes : List Byte)
  | error (kind : ErrKind) (info : Info)
deriving DecidableEq, Repr

/-- The response registers, and the response they make (R31, 30_encoding.md R81). -/
structure Resp where
  /-- `RESP.ERR`, 3 bits. -/
  err : BitVec 3
  /-- `RESP.LEN`, 0 to 6. -/
  len : Nat
  /-- `RESP.DATA`, 6 bytes. -/
  data : Vector Byte 6
  /-- `RESP.INFO`. -/
  info : Info
deriving DecidableEq, Repr

/-- A call of a transport primitive with its arguments (00_scope.md R16). -/
inductive BusCall where
  | scan
  | write (addr : BusAddr) (bytes : List Byte)
  | sleep (ms : Nat)
  | read (addr : BusAddr) (count : Nat)
deriving DecidableEq, Repr

/-- An answer of the environment to a transport call (R16, R37): a free draw. -/
inductive Answer where
  /-- The addresses a `BusScan` found. Only membership matters (20_memory.md R59). -/
  | scan (present : List BusAddr)
  | writeOk
  | writeFail
  /-- The `Sleep` returned. -/
  | slept
  | readFail
  | readOk (bytes : List Byte)
deriving DecidableEq, Repr

/-- One bus-port event: a call with its answer (00_scope.md R12). A call that a reset abandoned before its answer stands
in the history without one: the model's choice (log entry 22). -/
structure BusEvent where
  call : BusCall
  answer : Option Answer
deriving DecidableEq, Repr

/-- The status outputs the host may read (R33). -/
inductive StatusReg where
  | life
  | cal
  | busy
  | respErr
  | respLen
  | respData
  | respInfo
deriving DecidableEq, Repr, Inhabited

/-- What the host reads from a status output (R33). -/
inductive StatusValue where
  | life (v : Life)
  | cal (v : Cal)
  | busy (v : Bool)
  | respErr (v : BitVec 3)
  | respLen (v : Nat)
  | respData (v : Vector Byte 6)
  | respInfo (v : Info)
deriving DecidableEq, Repr

/-- What the outside world does next at the block's ports (00_scope.md R11). The list of these in `State` is the
schedule of the two other agents; its order says what comes before what (log entry 7). -/
inductive Input where
  /-- The host puts a request on the host port (R80). -/
  | request (w : ReqWord)
  /-- The environment answers the outstanding transport call (R16). -/
  | answer (a : Answer)
  /-- The environment answers a transport call that a reset has abandoned (70_reset_and_hazards.md R240). -/
  | lateAnswer (a : Answer)
  /-- The host reads a status output (R33). -/
  | statusRead (r : StatusReg)
  /-- Reset is applied (70_reset_and_hazards.md R240). -/
  | reset
  /-- The block makes one move before what follows happens outside. -/
  | move
  /-- Nothing happens outside until the block can go no further. -/
  | quiet
deriving DecidableEq, Repr

/-- The state of the block, and the plain data that stands for what it meets at its ports. -/
structure State where
  /-- The parameters (R39). No step changes them. -/
  params : Params
  /-- `LIFE`. -/
  life : Life
  /-- `CAL`. -/
  cal : Cal
  /-- `PHASE`. -/
  phase : Phase
  /-- `CUROP`, or none. -/
  curOp : Option HostOp
  /-- `CMDSEL`, or none. -/
  cmdSel : Option Command
  /-- `DESC.OPCODE`, `DESC.NWORDS`, `DESC.DELAY`. -/
  desc : Desc
  /-- `RXBUF`, at most 9 bytes. -/
  rxbuf : List Byte
  /-- `WIDX`, 2 bits. -/
  widx : BitVec 2
  /-- `CRC.C`, `CRC.BIT`, `CRC.BYTE`. -/
  crc : CrcRegs
  /-- `RESP.ERR`, `RESP.LEN`, `RESP.DATA`, `RESP.INFO`. -/
  resp : Resp
  /-- Whether a response has been written since reset. While it is false the response registers hold "no value" and a
  host read of them is refused (R38). -/
  respValid : Bool
  /-- MODEL: what CTL carries into `FINISH`, the operand of the pseudocode's `return` or `raise`. -/
  verdict : Option Verdict
  /-- The transport call issued and not yet answered (R258, 20_memory.md R61). -/
  outstanding : Option BusCall
  /-- What the host and the environment do next, first one first. -/
  inputs : List Input
  /-- The bus-port event history, oldest first (R62, R225). -/
  busLog : List BusEvent
  /-- The responses delivered to the host, oldest first (R258). -/
  responses : List Resp
  /-- What the host has read from the status outputs, oldest first (R33). -/
  statusReads : List StatusValue
  /-- MODEL: how many free values have been drawn. -/
  freeCount : Nat
deriving DecidableEq, Repr

/-- The faults of a step. The block has no traps (60_exceptions.md, its opening), and no
behaviour of it is a fault (93_implementation_defined.md, the end of part 1). -/
inductive Fault where
  /-- Raised by `step` only, when `TRANSPORT_MAY_HANG` is false and the schedule ends while a transport call is
  unanswered: such a run is excluded by that parameter setting (U6). Safe. -/
  | transportSilent
deriving DecidableEq, Repr

/-- The refusals of a step. A refused request has no step, and the run is marked refused (R214). -/
inductive Refusal where
  /-- An instruction without a meaning in `exec`. Raised by no arm. Safe. -/
  | notModelled (mnemonic : String)
  /-- A host request while `BUSY` (R213, R247). Raised by the host operations. Safe. -/
  | busy
  /-- A sensor operation while `LIFE = Unbound` (R213). Raised by the host operations. Safe. -/
  | notConstructed
  /-- CONSTRUCT while `LIFE = Ready` (R172, R213). Raised by CONSTRUCT. Safe. -/
  | alreadyConstructed
  /-- A HOSTREQ with a reserved `op` (R84). Raised by `step`. Safe. -/
  | reservedRequest
  /-- A HOSTREQ other than CHECKSUM with `data ≠ 0` (R84). Raised by `step`. Safe. -/
  | nonZeroData
  /-- A host read of `RESP.*` before the first response after reset: the spec refuses it (R33, R38, R248,
  92_eei_decisions.md D22, 93_implementation_defined.md U14). Raised by `step`. Safe. -/
  | respNoValue
  /-- A sensor command that CTL has not selected: it cannot be requested directly (R89, R131). Raised by the command
  meanings; `step` never asks for it. Safe. -/
  | commandNotSelected
deriving DecidableEq, Repr

/-- The response registers after reset. They hold "no value" (R38), which `respValid = false` says; the contents
behind it are a DESIGN CHOICE. -/
def Resp.atReset : Resp where
  err := 0#3
  len := 0
  data := #v[0#8, 0#8, 0#8, 0#8, 0#8, 0#8]
  info := .none

/-- The machine right after reset (R38, R240): `LIFE`, `CAL`, `PHASE`, `CUROP` and `CMDSEL` as the spec says; the
unspecified scratch registers at zero, a DESIGN CHOICE; nothing at the ports. -/
def State.reset : State where
  params := Params.default
  life := .unbound
  cal := .uninitialized
  phase := .idle
  curOp := none
  cmdSel := none
  desc := { opcode := 0#16, nwords := 0#2, delay := 0 }
  rxbuf := []
  widx := 0#2
  crc := { c := 0#8, bit := 0#3, byte := 0#1 }
  resp := Resp.atReset
  respValid := false
  verdict := none
  outstanding := none
  inputs := []
  busLog := []
  responses := []
  statusReads := []
  freeCount := 0

end Sys2Proof.Machine
end

