-- ==== Sys2Proof/Machine/Flags.lean ====
section
/-! DEFINITION. The flags of the block (10_state.md R32): `LIFE`, `CAL`, `BUSY` and `RESP.ERR`, and the status outputs
the host reads (R33). The block has no condition codes. -/

namespace Sys2Proof.Machine

/-- `BUSY`, defined as `PHASE ≠ IDLE` (R32). -/
def State.busy (s : State) : Bool := s.phase != .idle

/-- `LIFE <- v` (R22). -/
def State.setLife (v : Life) (s : State) : State := { s with life := v }

/-- `CAL <- v` (R23). -/
def State.setCal (v : Cal) (s : State) : State := { s with cal := v }

/-- The code of an error kind in `RESP.ERR` (60_exceptions.md R210). -/
def ErrKind.code : ErrKind → BitVec 3
  | .deviceNotFound => 1#3
  | .checksumMismatch => 2#3
  | .sequencingViolation => 3#3
  | .unexpectedResponseValue => 4#3
  | .transportError => 5#3

/-- `RESP.ERR` of a verdict: 0 is `OK` (R210). -/
def Verdict.code : Verdict → BitVec 3
  | .ok _ => 0#3
  | .error kind _ => kind.code

/-- A `RESP.*` register as the host reads it: refused before the first response after reset (R33, R38). -/
def State.readResp (s : State) (v : StatusValue) : Option StatusValue := if s.respValid then some v else none

/-- A status output as the host reads it, or none where the read is refused (R33). -/
def State.readStatus (s : State) : StatusReg → Option StatusValue
  | .life => some (.life s.life)
  | .cal => some (.cal s.cal)
  | .busy => some (.busy s.busy)
  | .respErr => s.readResp (.respErr s.resp.err)
  | .respLen => s.readResp (.respLen s.resp.len)
  | .respData => s.readResp (.respData s.resp.data)
  | .respInfo => s.readResp (.respInfo s.resp.info)

end Sys2Proof.Machine
end

