-- ==== Sys2Proof/Machine/Ops.lean ====
section
/-! DEFINITION. The named operations the meanings share: acceptance of a request, the selection of a command, ending an
operation with a result or with an error, the delivery of the response, and reset. The block has no memory
(20_memory.md R50), so there is no operation on one. -/

namespace Sys2Proof.Machine

/-- Why a host request is refused in state `s`, or none where it is accepted (60_exceptions.md R213). `need` is the
`LIFE` the request requires, none where it is accepted in any. -/
def acceptRefusal (need : Option Life) (s : State) : Option Refusal :=
  if s.busy then some .busy
  else
    match need, s.life with
    | some .ready, .unbound => some .notConstructed
    | some .unbound, .ready => some .alreadyConstructed
    | _, _ => none

/-- `CUROP <- op` at acceptance; `CMDSEL` is `NONE` until CTL selects a command (R26). -/
def State.begin (op : HostOp) (s : State) : State := { s with curOp := some op, cmdSel := none }

/-- `PHASE <- SCAN` (42_operations.md R170). -/
def State.startScan (s : State) : State := { s with phase := .scan }

/-- The response word count of a command (30_encoding.md R82). -/
def commandWords : Command → BitVec 2
  | .getSerialId => 3#2
  | .measureTest => 1#2
  | .initAirQuality => 0#2
  | .measureAirQuality => 2#2
  | .measureRawSignals => 2#2

/-- The settle delay of a command: `SETTLE_SELFTEST_MS` for the self-test, `SETTLE_DEFAULT_MS` for every other (R82,
R254). -/
def commandDelay (p : Params) : Command → Nat
  | .measureTest => p.settleSelftestMs
  | .getSerialId | .initAirQuality | .measureAirQuality | .measureRawSignals => p.settleDefaultMs

/-- The row of the fixed command table a command loads into `DESC` (R27, R82). -/
def descOf (p : Params) (c : Command) : Desc where
  opcode := p.opcode c
  nwords := commandWords c
  delay := commandDelay p c

/-- The start of a command: CTL sets `CMDSEL`, TXN loads `DESC` and sets `PHASE <- WRITE` (41_transaction.md R131). -/
def State.select (c : Command) (s : State) : State :=
  { s with cmdSel := some c, desc := descOf s.params c, phase := .write }

/-- The command that is selected and whose `BusWrite` is not yet issued, if any (R131). -/
def State.readyCommand (s : State) : Option Command :=
  if s.phase = .write ∧ s.outstanding = none then s.cmdSel else none

/-- The transport call of a phase, or none where the phase makes none (R132, R135, R137, R171). -/
def State.phaseCall (s : State) : Option BusCall :=
  match s.phase with
  | .scan => some .scan
  | .write => some (.write s.params.devAddr (cmdBytes s.desc.opcode))
  | .settle => some (.sleep s.desc.delay)
  | .read => some (.read s.params.devAddr (Config.wordBytes * s.desc.nwords.toNat))
  | .idle | .verify | .finish => none

/-- The transport call of the phase is issued (R61: one at a time, answered before the next). -/
def State.issueCall (s : State) : State := { s with outstanding := s.phaseCall }

/-- The environment's answer is taken: the event is complete and enters the history (R12, R61). -/
def State.logAnswer (call : BusCall) (a : Answer) (rest : List Input) (s : State) : State :=
  { s with outstanding := none, inputs := rest, busLog := s.busLog ++ [{ call := call, answer := some a }] }

/-- `PHASE <- SETTLE` (R133). -/
def State.enterSettle (s : State) : State := { s with phase := .settle }

/-- `PHASE <- READ` (R136). -/
def State.enterRead (s : State) : State := { s with phase := .read }

/-- `RXBUF <- bytes`, `PHASE <- VERIFY` with `WIDX` at the first word (R138, R140). -/
def State.enterVerify (bytes : List Byte) (s : State) : State :=
  { s with rxbuf := bytes, widx := 0#2, phase := .verify }

/-- CRCGEN's registers after a computation (R30). -/
def State.setCrc (r : CrcRegs) (s : State) : State := { s with crc := r }

/-- `WIDX` moves to the next word (R29). -/
def State.nextWord (s : State) : State := { s with widx := s.widx + 1#2 }

/-- The input at the head is taken off the schedule. -/
def State.takeInput (rest : List Input) (s : State) : State := { s with inputs := rest }

/-- A status output is shown to the host (R33). -/
def State.showStatus (v : StatusValue) (s : State) : State := { s with statusReads := s.statusReads ++ [v] }

/-- `PHASE <- FINISH` with the verdict CTL writes to the response registers there (R145). -/
def State.conclude (v : Verdict) (s : State) : State := { s with phase := .finish, verdict := some v }

/-- `return r` (00_scope.md R15). -/
def State.succeed (r : List Byte) (s : State) : State := s.conclude (.ok r)

/-- TAKING AN ERROR: `raise E(info)`, steps 1 and 2 of R216. The rest of the sequence is abandoned and
`PHASE <- FINISH`; `LIFE` and `CAL` keep their values. Steps 3 and 5 are `State.deliver`. -/
def State.raise (kind : ErrKind) (info : Info) (s : State) : State := s.conclude (.error kind info)

/-- Byte `i` of `RESP.DATA` for the result `r`: the result byte, or a free value at and above `RESP.LEN` (R31, R216). -/
def respByte (r : List Byte) (n i : Nat) : Byte := r.getD i (Config.freeByte (n + i))

/-- `RESP.DATA` for the result `r` (R31, R81). -/
def respBytes (r : List Byte) (n : Nat) : Vector Byte 6 :=
  #v[respByte r n 0, respByte r n 1, respByte r n 2, respByte r n 3, respByte r n 4, respByte r n 5]

/-- The response registers for a verdict: R145 on success, step 3 of R216 on an error. `n` numbers the free values. -/
def respOf (v : Verdict) (n : Nat) : Resp :=
  match v with
  | .ok r => { err := Verdict.code (.ok r), len := r.length, data := respBytes r n, info := .none }
  | .error kind info => { err := kind.code, len := 0, data := respBytes [] n, info := info }

/-- CTL writes the four response registers (R145) and the response is delivered (R81). -/
def State.writeResp (v : Verdict) (s : State) : State :=
  { s with resp := respOf v s.freeCount, respValid := true,
           responses := s.responses ++ [respOf v s.freeCount], verdict := none }

/-- `PHASE <- IDLE`: `CMDSEL` is `NONE` there (R26); the other scratch registers are not architectural at `IDLE`
(R21, 93_implementation_defined.md U16), so each holds a free value from here on. -/
def State.goIdle (s : State) : State :=
  { s with phase := .idle, cmdSel := none, curOp := Config.freeHostOp s.freeCount,
           desc := { opcode := Config.freeWord s.freeCount, nwords := Config.freeTwoBits s.freeCount,
                     delay := Config.freeDelay s.freeCount },
           rxbuf := (Config.freeBytes s.freeCount).take (Config.wordBytes * Config.maxWords),
           widx := Config.freeTwoBits (s.freeCount + 1),
           crc := { c := Config.freeByte (s.freeCount + 6), bit := Config.freeThreeBits s.freeCount,
                    byte := Config.freeBit s.freeCount },
           freeCount := s.freeCount + 7 }

/-- `FINISH`: the response registers are written, `PHASE <- IDLE` and the response is delivered in one step, so
`BUSY` falls with it (R145, R216 steps 3 and 5). There is no other return from an error (R218). -/
def State.deliver (v : Verdict) (s : State) : State := (s.writeResp v).goIdle

/-- The event of a call a reset abandons: issued, so in the history (R62 puts the call in the trace), and without an
answer. The spec leaves open whether it stands there: the model's choice (log entry 22). -/
def State.abandonedCall (s : State) : List BusEvent :=
  match s.outstanding with
  | some call => [{ call := call, answer := none }]
  | none => []

/-- Reset (R240): every register at its reset value (R38); a request in flight is abandoned with no response. An
outstanding call is abandoned: it enters the history unanswered (log entry 22), and its answer, a `lateAnswer`, is
discarded when it comes (log entry 14). The parameters (R39) and the histories the outside keeps (R258) are no registers
and stay (log entry 13). -/
def State.applyReset (s : State) : State :=
  { State.reset with params := s.params, inputs := s.inputs, busLog := s.busLog ++ s.abandonedCall,
                     responses := s.responses, statusReads := s.statusReads, freeCount := s.freeCount }

end Sys2Proof.Machine
end

