-- ==== Sys2Proof/Machine/Sequencer.lean ====
section
/-! DEFINITION. TXN and the part of CTL that follows it (41_transaction.md): one move of the sequencer for each edge of
10_state.md R25, and the moves of one command or one operation in a row. -/

namespace Sys2Proof.Machine

/-- What CTL does when the running command has returned `r`, by the pseudocode of the operation in `CUROP`
(42_operations.md R170, R173, R175, R178, R183). -/
def State.commandReturned (r : List Byte) (s : State) : State :=
  match s.curOp, s.cmdSel with
  | some .construct, _ => (s.setLife .ready).succeed r
  | some .selfTest, _ =>
    if selfTestValue r = s.params.selftestExpected then s.succeed r
    else s.raise .unexpectedResponseValue (.value (selfTestValue r))
  | some .measureAirQuality, some .initAirQuality =>
    match s.params.calSetPoint with
    | .beforeInit => s.select .measureAirQuality
    | .afterInitOk => (s.setCal .calibrating).select .measureAirQuality
  | _, _ => s.succeed r

/-- `SCAN` answered with the set of present addresses (R171). -/
def State.scanAnswered (present : List BusAddr) (s : State) : State :=
  if s.params.devAddr ∈ present then s.select .getSerialId else s.raise .deviceNotFound .none

/-- `SETTLE` over: with word count 0 the command has returned, else the read follows (R136). -/
def State.sleepReturned (s : State) : State :=
  if s.desc.nwords = 0#2 then s.commandReturned [] else s.enterRead

/-- `READ` answered `OK(bytes)`: the length is checked, then the whole answer goes to `RXBUF` (R138, R139). -/
def State.readAnswered (bytes : List Byte) (s : State) : State :=
  if bytes.length = Config.wordBytes * s.desc.nwords.toNat then s.enterVerify bytes
  else s.raise .transportError (.stage .readLength)

/-- The block's move on the environment's answer in the phase that waits for it; none where the answer is not one that
the call of this phase can have (R16). -/
def State.onAnswer (s : State) (a : Answer) : Option State :=
  match s.phase, a with
  | .scan, .scan present => some (s.scanAnswered present)
  | .write, .writeOk => some s.enterSettle
  | .write, .writeFail => some (s.raise .transportError (.stage .write))
  | .settle, .slept => some s.sleepReturned
  | .read, .readFail => some (s.raise .transportError (.stage .read))
  | .read, .readOk bytes => some (s.readAnswered bytes)
  | _, _ => none

/-- The response word CRCGEN is to check next (R140). -/
def State.currentWord (s : State) : Byte × Byte × Byte := wordAt s.rxbuf s.widx.toNat

/-- `VERIFY`, one word: CRCGEN computes over its two data bytes with a fresh start value (40_crc8.md R105), the
checksum is compared (R107); the first failing word ends the operation, the last good one returns the result
(R140, R142). -/
def State.verifyWord (s : State) : State :=
  let regs := crcgen s.params.crc s.currentWord.1 s.currentWord.2.1
  if regs.value s.params.crc = s.currentWord.2.2 then
    if s.widx.toNat + 1 < s.desc.nwords.toNat then (s.setCrc regs).nextWord
    else (s.setCrc regs).commandReturned (resultOf s.rxbuf s.desc.nwords.toNat)
  else (s.setCrc regs).raise .checksumMismatch (.word s.widx)

/-- A move in a phase that makes a transport call: first the call is issued, then the move is the one its answer
asks for. None while the transport has not answered (R146). -/
def State.busMove (s : State) : Option State :=
  match s.outstanding, s.inputs with
  | none, _ => some s.issueCall
  | some call, .answer a :: rest => (s.logAnswer call a rest).onAnswer a
  | some _, _ => none

/-- One move of the sequencer, or none where it cannot move: at `IDLE`, and where a call waits for its answer. -/
def State.nextMove (s : State) : Option State :=
  match s.phase with
  | .idle => none
  | .scan | .write | .settle | .read => s.busMove
  | .verify => some s.verifyWord
  | .finish => s.verdict.map fun v => s.deliver v

/-- Whether an input is served before the block moves on: what the host does, and `move`, which lets the block make one
move only. So a request, a read or a reset can land between any two moves (R33, R213, R240). -/
def Input.holdsUp : Input → Bool
  | .request _ | .statusRead _ | .reset | .move => true
  | .answer _ | .lateAnswer _ | .quiet => false

/-- Whether the input at the head of the schedule is served before the block moves on. -/
def State.heldUp (s : State) : Bool := s.inputs.head?.any Input.holdsUp

/-- One move of the sequencer, or none where it cannot move or is held up. -/
def State.advance (s : State) : Option State := if s.heldUp then none else s.nextMove

/-- The block makes one move, if it can, whatever is at the head of the schedule. -/
def State.moveOnce (s : State) : State := s.nextMove.getD s

/-- Moves of the sequencer until it cannot move, at most `k`. -/
def State.runMoves : Nat → State → State
  | 0, s => s
  | k + 1, s =>
    match s.advance with
    | none => s
    | some t => State.runMoves k t

/-- Moves of the sequencer until it cannot move or until CTL has selected a command to run next, at most `k`. -/
def State.runCommandMoves : Nat → State → State
  | 0, s => s
  | k + 1, s =>
    match s.advance with
    | none => s
    | some t => if t.readyCommand.isSome then t else State.runCommandMoves k t

/-- The block moves on as far as the answers of the transport carry it. -/
def State.runOperation (s : State) : State := State.runMoves Config.moveBudget s

/-- `EXEC`, from the selected command to its end or to the point where the transport does not answer (R130). -/
def State.runCommand (s : State) : State := State.runCommandMoves Config.moveBudget s

end Sys2Proof.Machine
end

