-- ==== Sys2Proof/Machine/Commands.lean ====
section
/-! DEFINITION. The meanings of the five sensor commands (30_encoding.md R82): TXN's procedure `EXEC(op, n, d)` of
41_transaction.md R130 over each command's row of the table. -/

namespace Sys2Proof.Machine

/-- `EXEC` of a command: it runs when CTL has selected it (R131) and cannot be requested otherwise (R89). -/
def execCommand (c : Command) (s : State) : Host.Outcome State Fault Refusal :=
  if s.readyCommand = some c then .next s.runCommand else .refused .commandNotSelected

/-- `GET_SERIAL_ID`: 3 response words, 10 ms (R82). -/
def execCmdGetSerialId (s : State) : Host.Outcome State Fault Refusal := execCommand .getSerialId s

/-- `MEASURE_TEST`: 1 response word, 250 ms (R82). -/
def execCmdMeasureTest (s : State) : Host.Outcome State Fault Refusal := execCommand .measureTest s

/-- `INIT_AIR_QUALITY`: no response word, 10 ms (R82). -/
def execCmdInitAirQuality (s : State) : Host.Outcome State Fault Refusal := execCommand .initAirQuality s

/-- `MEASURE_AIR_QUALITY`: 2 response words, 10 ms (R82). -/
def execCmdMeasureAirQuality (s : State) : Host.Outcome State Fault Refusal := execCommand .measureAirQuality s

/-- `MEASURE_RAW_SIGNALS`: 2 response words, 10 ms (R82). -/
def execCmdMeasureRawSignals (s : State) : Host.Outcome State Fault Refusal := execCommand .measureRawSignals s

end Sys2Proof.Machine
end

