-- ==== Sys2Proof/Machine/Requests.lean ====
section
/-! DEFINITION. The meanings of the six host requests: the operations of 42_operations.md and CHECKSUM of 40_crc8.md.
Each is accepted or refused by R213; an accepted one runs its whole sequence, as far as the transport answers. -/

namespace Sys2Proof.Machine

/-- A host request: refused by R213, or accepted, started by `start` and run. -/
def hostRequest (op : HostOp) (need : Option Life) (start : State → State) (s : State) :
    Host.Outcome State Fault Refusal :=
  match acceptRefusal need s with
  | some r => .refused r
  | none => .next (start (s.begin op)).runOperation

/-- CONSTRUCT begins with the scan (R170). -/
def startConstruct (s : State) : State := s.startScan

/-- IDENTIFY runs GET_SERIAL_ID (R173). -/
def startIdentify (s : State) : State := s.select .getSerialId

/-- SELF_TEST: the guard comes before any bus event; else MEASURE_TEST runs (R175). -/
def startSelfTest (s : State) : State :=
  match s.cal with
  | .calibrating => s.raise .sequencingViolation .none
  | .uninitialized => s.select .measureTest

/-- The first MEASURE_AIR_QUALITY runs the init command, with `CAL` set before its write under `BEFORE_INIT`; a later
one runs the measure command only (R178, R179). -/
def startMeasureAirQuality (s : State) : State :=
  match s.cal, s.params.calSetPoint with
  | .uninitialized, .beforeInit => (s.setCal .calibrating).select .initAirQuality
  | .uninitialized, .afterInitOk => s.select .initAirQuality
  | .calibrating, _ => s.select .measureAirQuality

/-- MEASURE_RAW_SIGNALS runs its command, with no guard (R183, R184). -/
def startMeasureRawSignals (s : State) : State := s.select .measureRawSignals

/-- CHECKSUM: CRCGEN over the operand's byte pair, high byte first; no bus event (40_crc8.md R112). -/
def startChecksum (data : Word) (s : State) : State :=
  let regs := crcgen s.params.crc (hiByte data) (loByte data)
  (s.setCrc regs).succeed [regs.value s.params.crc]

/-- `construct` (R170). -/
def execConstruct (s : State) : Host.Outcome State Fault Refusal :=
  hostRequest .construct (some .unbound) startConstruct s

/-- `identify` (R173). -/
def execIdentify (s : State) : Host.Outcome State Fault Refusal :=
  hostRequest .identify (some .ready) startIdentify s

/-- `self_test` (R175). -/
def execSelfTest (s : State) : Host.Outcome State Fault Refusal :=
  hostRequest .selfTest (some .ready) startSelfTest s

/-- `measure_air_quality` (R178). -/
def execMeasureAirQuality (s : State) : Host.Outcome State Fault Refusal :=
  hostRequest .measureAirQuality (some .ready) startMeasureAirQuality s

/-- `measure_raw_signals` (R183). -/
def execMeasureRawSignals (s : State) : Host.Outcome State Fault Refusal :=
  hostRequest .measureRawSignals (some .ready) startMeasureRawSignals s

/-- `checksum` (R112): accepted in either `LIFE`. -/
def execChecksum (data : Word) (s : State) : Host.Outcome State Fault Refusal :=
  hostRequest .checksum none (startChecksum data) s

end Sys2Proof.Machine
end

