-- ==== Sys2Proof/Machine/Dispatch.lean ====
section
/-! DEFINITION. One arm for each instruction. -/

namespace Sys2Proof.Machine

def exec (i : Instr) (s : State) : Host.Outcome State Fault Refusal :=
  match i with
  -- host requests (30_encoding.md R80)
  | .construct => Sys2Proof.Machine.execConstruct s
  | .identify => Sys2Proof.Machine.execIdentify s
  | .selfTest => Sys2Proof.Machine.execSelfTest s
  | .measureAirQuality => Sys2Proof.Machine.execMeasureAirQuality s
  | .measureRawSignals => Sys2Proof.Machine.execMeasureRawSignals s
  | .checksum data => Sys2Proof.Machine.execChecksum data s
  -- sensor commands (R82)
  | .cmdGetSerialId => Sys2Proof.Machine.execCmdGetSerialId s
  | .cmdMeasureTest => Sys2Proof.Machine.execCmdMeasureTest s
  | .cmdInitAirQuality => Sys2Proof.Machine.execCmdInitAirQuality s
  | .cmdMeasureAirQuality => Sys2Proof.Machine.execCmdMeasureAirQuality s
  | .cmdMeasureRawSignals => Sys2Proof.Machine.execCmdMeasureRawSignals s

end Sys2Proof.Machine
end

