-- ==== Sys2Proof/Machine/Fetch.lean ====
section
/-! DEFINITION. What a step takes from the two ports: the request word on the host port, the command in `CMDSEL`, a host
read of a status output, an answer nobody waits for; and how a word of the opcode table is placed there. -/

namespace Sys2Proof.Machine

/-- The refusal of a word that spells no instruction (R84). A CMD frame never reaches the host port. -/
def rejectRefusal : DecodeReject → Refusal
  | .reservedOp => .reservedRequest
  | .nonZeroData => .nonZeroData
  | .frameLength => .commandNotSelected
  | .unknownOpcode => .commandNotSelected

/-- The instruction a request word asks for, or its refusal (R80, R84). -/
def fetchRequest (p : Params) (w : ReqWord) : Except Refusal Instr :=
  match decode p (.hostReq w) with
  | .ok i => .ok i
  | .error e => .error (rejectRefusal e)

/-- A host read of a status output: the value goes to the host, nothing of the block changes (R33). A read of `RESP.*`
before the first response after reset is refused: the spec's own stop (10_state.md R33, R38, 70_reset_and_hazards.md R248,
92_eei_decisions.md D22, 93_implementation_defined.md U14), with no step (60_exceptions.md R214). -/
def serveStatusRead (r : StatusReg) (s : State) : Host.Outcome State Fault Refusal :=
  match s.readStatus r with
  | some v => .next (s.showStatus v)
  | none => .refused .respNoValue

/-- The schedule has ended. At `IDLE` the run is over and the block stays there (R258). While a call waits, the block
waits for ever: a stuck state (R146), excluded only where `TRANSPORT_MAY_HANG` is false. -/
def waitOn (s : State) : Host.Outcome State Fault Refusal :=
  if s.outstanding.isSome ∧ s.params.transportMayHang = false then .fault .transportSilent else .next s

/-- The sequencer's own turn, when nothing at the head of the schedule holds it up: it moves on if it can, on the answer
its call waits for as well. If it cannot, a late answer or one that no call waits for is discarded (R240), a quiet moment
passes, and an ended schedule leaves it waiting. -/
def sequencerTurn (s : State) : Host.Outcome State Fault Refusal :=
  match s.advance, s.inputs with
  | some _, _ => .next s.runCommand
  | none, [] => waitOn s
  | none, _ :: rest => .next (s.takeInput rest)

/-- A request word is put on the host port, ahead of everything the outside does later. -/
def placeRequest (w : ReqWord) (s : State) : State := { s with inputs := .request w :: s.inputs }

/-- The operation that runs a command (R83); GET_SERIAL_ID belongs to CONSTRUCT before construction and to IDENTIFY
after it. -/
def operationOf (l : Life) : Command → HostOp
  | .getSerialId =>
    match l with
    | .unbound => .construct
    | .ready => .identify
  | .measureTest => .selfTest
  | .initAirQuality => .measureAirQuality
  | .measureAirQuality => .measureAirQuality
  | .measureRawSignals => .measureRawSignals

/-- CTL is put at the point where it has selected command `c` (R131): `CUROP`, `CMDSEL`, `DESC` and `PHASE` as they are
there, no call issued, and nothing at the head of the schedule that is served before the block moves. -/
def placeCommand (c : Command) (s : State) : State :=
  State.select c { s with curOp := some (operationOf s.life c), outstanding := none, verdict := none,
                          inputs := s.inputs.dropWhile Input.holdsUp }

/-- A row's words are placed where the step takes its next instruction: a HOSTREQ on the host port, a CMD in `CMDSEL`. -/
def placeFrame (f : Frame) (s : State) : State :=
  match f with
  | .hostReq w => placeRequest w s
  | .cmd [hi, lo] =>
    match commandOf s.params (be16 hi lo) with
    | some c => placeCommand c s
    | none => s
  | .cmd _ => s

end Sys2Proof.Machine
end

