-- ==== Sys2Proof/Machine/Step.lean ====
section
/-! DEFINITION. One step of the machine. What stands first in the schedule of the outside is served first: a reset, a
host request, a host read, a single move of the block; otherwise the block has its turn and runs the command CTL has
selected, or moves on. -/

namespace Sys2Proof.Machine

/-- A request word from the host port: the instruction it spells is executed, or the word is refused (R80, R84). -/
def runRequest (w : ReqWord) (s : State) : Host.Outcome State Fault Refusal :=
  match fetchRequest s.params w with
  | .ok i => exec i s
  | .error r => .refused r

/-- The block's turn: the selected command is executed (R131), or the sequencer moves on. -/
def blockTurn (s : State) : Host.Outcome State Fault Refusal :=
  match s.readyCommand with
  | some c => exec (.ofCommand c) s
  | none => sequencerTurn s

/-- One step. -/
def step (s : State) : Host.Outcome State Fault Refusal :=
  match s.inputs with
  | .reset :: rest => .next (s.takeInput rest).applyReset
  | .request w :: rest => runRequest w (s.takeInput rest)
  | .statusRead r :: rest => serveStatusRead r (s.takeInput rest)
  | .move :: rest => .next (s.takeInput rest).moveOnce
  | _ => blockTurn s

/-- `s` with the row's instruction where `step` takes its next instruction. -/
def State.withFetchWord (s : State) (nbits w : Nat) : State :=
  match frameOfTableWord nbits w with
  | some f => placeFrame f s
  | none => s

end Sys2Proof.Machine
end

