-- ==== Sys2Proof/WellFormed.lean ====
section
/-! DEFINITION. What a well-formed request word, command frame, parameter set and instruction are. An instruction's
operand type admits exactly the values its encoding admits, so every check is about the words and the parameters. -/

namespace Sys2Proof

/-- The `op` field of a request names one of the six operations (R80, R84). -/
def ReqWord.opDefined (w : ReqWord) : Bool := (reqOp w).toNat ≤ 5

/-- The `data` field is 0 unless the request is CHECKSUM (R80, R84). -/
def ReqWord.dataAllowed (w : ReqWord) : Bool := (reqOp w).toNat = 5 || reqData w = 0#16

/-- A request word that spells an operation (R84). -/
def ReqWord.wf (w : ReqWord) : Bool := ReqWord.opDefined w && ReqWord.dataAllowed w

/-- The five opcodes are pairwise distinct (00_scope.md R10). -/
def Params.wf (p : Params) : Bool := (Command.all.map p.opcode).Nodup

/-- A byte sequence that is a CMD frame of one of the five commands (R71, R85). -/
def cmdFrameWf (p : Params) (bytes : List Byte) : Bool :=
  bytes.length = 2 && (Command.all.map fun c => cmdBytes (p.opcode c)).contains bytes

/-- A frame that spells an instruction. -/
def Frame.wf (p : Params) : Frame → Bool
  | .hostReq w => ReqWord.wf w
  | .cmd bytes => cmdFrameWf p bytes

/-- An instruction is well-formed under `p` when its own words are. -/
def Instr.wf (p : Params) (i : Instr) : Bool := (encode p i).wf p

end Sys2Proof
end

