-- ==== Sys2Proof/Safety.lean ====
section
/-! DEFINITION. The terms claims are stated in: the rules read straight off the spec as relations and functions of their
own (the edges of 10_state.md R25, the sequences of 30_encoding.md R83, one transaction of 41_transaction.md as a function
of the environment's answers), the invariant of the machine, and the end of a run (70_reset_and_hazards.md R258). -/

namespace Sys2Proof.Machine

/-- The commands an operation runs (R83). -/
def runsCommand : HostOp → Command → Bool
  | .construct, .getSerialId => true
  | .identify, .getSerialId => true
  | .selfTest, .measureTest => true
  | .measureAirQuality, .initAirQuality => true
  | .measureAirQuality, .measureAirQuality => true
  | .measureRawSignals, .measureRawSignals => true
  | _, _ => false

/-- The phases in which TXN runs a command (R24, R25). -/
def Phase.inCommand : Phase → Bool
  | .write | .settle | .read | .verify => true
  | .idle | .scan | .finish => false

/-- The transport calls the block makes (R51, R56, R82, R254): a scan; a write of one of the five opcodes to the device;
a sleep of one of the two settle delays; a read of 3, 6 or 9 bytes from the device. -/
def busCallOk (p : Params) : BusCall → Prop
  | .scan => True
  | .write a bytes => a = p.devAddr ∧ ∃ c, bytes = cmdBytes (p.opcode c)
  | .sleep ms => ms = p.settleDefaultMs ∨ ms = p.settleSelftestMs
  | .read a n => a = p.devAddr ∧ (n = 3 ∨ n = 6 ∨ n = 9)

/-- Whether an answer is one that a call can have (00_scope.md R16). -/
def answerFits : BusCall → Answer → Bool
  | .scan, .scan _ => true
  | .write _ _, .writeOk => true
  | .write _ _, .writeFail => true
  | .sleep _, .slept => true
  | .read _ _, .readOk _ => true
  | .read _ _, .readFail => true
  | _, _ => false

/-- The bus-port events the block can cause: a call it makes, with an answer that fits or abandoned by a reset. -/
def busEventOk (p : Params) (e : BusEvent) : Prop := busCallOk p e.call ∧ ∀ a, e.answer = some a → answerFits e.call a = true

/-- The ranges of the response registers (R31, R210): a code of the table, at most 6 result bytes, none on an error. -/
def respOk (r : Resp) : Prop := r.err.toNat ≤ 5 ∧ r.len ≤ 6 ∧ (r.err ≠ 0#3 → r.len = 0)

/-- The value `CAL` has while the operation in `CUROP` runs the command in `CMDSEL` (R175, R179). -/
def calDuring (sp : CalSetPoint) (op : HostOp) (c : Command) (cal : Cal) : Prop :=
  match op, c with
  | .construct, _ => cal = .uninitialized
  | .selfTest, _ => cal = .uninitialized
  | .measureAirQuality, .initAirQuality =>
    match sp with
    | .beforeInit => cal = .calibrating
    | .afterInitOk => cal = .uninitialized
  | .measureAirQuality, _ => cal = .calibrating
  | _, _ => True

/-- The `LIFE` an operation needs while it runs (R213). -/
def needsLife : HostOp → Option Life
  | .construct => some .unbound
  | .identify | .selfTest | .measureAirQuality | .measureRawSignals => some .ready
  | .checksum => none

/-- What every state of a run satisfies. -/
structure State.Inv (s : State) : Prop where
  /-- The call that is outstanding is the one the phase makes. -/
  call_of_phase : ∀ call, s.outstanding = some call → s.phaseCall = some call
  /-- A verdict is carried in `FINISH` and nowhere else. -/
  verdict_in_finish : s.verdict.isSome ↔ s.phase = .finish
  /-- `CMDSEL` is `NONE` in `IDLE` and `SCAN` (R26). -/
  no_command : s.phase = .idle ∨ s.phase = .scan → s.cmdSel = none
  /-- Only CONSTRUCT scans, and it needs `LIFE = Unbound` (R170). -/
  scan_of_construct : s.phase = .scan → s.curOp = some .construct ∧ s.life = .unbound
  /-- A running command belongs to the running operation, and `DESC` holds its row (R27, R83). -/
  command_of_operation : s.phase.inCommand = true → ∃ op c, s.curOp = some op ∧ s.cmdSel = some c ∧
    runsCommand op c = true ∧ s.desc = descOf s.params c ∧ needsLife op = some s.life ∧
    calDuring s.params.calSetPoint op c s.cal
  /-- `CAL = Calibrating` only after construction (R23, R178). -/
  calibrating_ready : s.cal = .calibrating → s.life = .ready
  /-- A read is made only of a command with response words (R136). -/
  read_has_words : s.phase = .read → s.desc.nwords ≠ 0#2
  /-- `RXBUF` holds at most 9 bytes (R28). -/
  rxbuf_bound : s.rxbuf.length ≤ 9
  /-- In `VERIFY` the answer is whole and `WIDX` is the index of one of its words (R29, R138). -/
  verify_whole : s.phase = .verify →
    s.rxbuf.length = 3 * s.desc.nwords.toNat ∧ s.widx.toNat < s.desc.nwords.toNat
  /-- A result is at most 6 bytes long (R81). -/
  result_bound : ∀ r, s.verdict = some (.ok r) → r.length ≤ 6
  /-- The response registers are in range. -/
  resp_ok : respOk s.resp
  /-- So is every response delivered. -/
  responses_ok : ∀ r ∈ s.responses, respOk r
  /-- The bus has seen only what the rules allow. -/
  log_ok : ∀ e ∈ s.busLog, busEventOk s.params e

/-- The edges of the table of R25, each with its condition. `w` is the answer taken, if the move takes one. -/
def phaseEdge (s t : State) (a : Option Answer) : Prop :=
  match s.phase, t.phase, a with
  | .scan, .write, some (.scan present) => s.params.devAddr ∈ present
  | .scan, .finish, some (.scan present) => s.params.devAddr ∉ present
  | .write, .settle, some .writeOk => True
  | .write, .finish, some .writeFail => True
  | .settle, .read, some .slept => s.desc.nwords ≠ 0#2
  | .settle, .write, some .slept =>
    s.desc.nwords = 0#2 ∧ s.curOp = some .measureAirQuality ∧ s.cmdSel = some .initAirQuality
  | .settle, .finish, some .slept =>
    s.desc.nwords = 0#2 ∧ ¬ (s.curOp = some .measureAirQuality ∧ s.cmdSel = some .initAirQuality)
  | .read, .verify, some (.readOk bytes) => bytes.length = 3 * s.desc.nwords.toNat
  | .read, .finish, some (.readOk bytes) => bytes.length ≠ 3 * s.desc.nwords.toNat
  | .read, .finish, some .readFail => True
  | .verify, .finish, none =>
    s.widx.toNat + 1 = s.desc.nwords.toNat ∨
      crc8 s.params.crc [s.rxbuf.getD (3 * s.widx.toNat) 0#8, s.rxbuf.getD (3 * s.widx.toNat + 1) 0#8] ≠
        s.rxbuf.getD (3 * s.widx.toNat + 2) 0#8
  | .finish, .idle, none => t.responses = s.responses ++ [t.resp]
  | _, _, _ => False

/-- The answer a move of the sequencer takes: the one at the head of the schedule, when a call waits for it. -/
def State.answerTaken (s : State) : Option Answer :=
  match s.outstanding, s.inputs with
  | some _, .answer a :: _ => some a
  | _, _ => none

/-- Whether an input is a request of the host. -/
def Input.isRequest : Input → Bool
  | .request _ => true
  | .answer _ | .lateAnswer _ | .statusRead _ | .reset | .move | .quiet => false

/-- A request is pending on the host port: one stands on the schedule, whatever stands before it (log entry 9). -/
def State.requestPending (s : State) : Bool := s.inputs.any Input.isRequest

/-- The run has ended: `PHASE = IDLE`, no request pending, no transport call outstanding (R258). Host reads, late answers,
resets and quiet moments may still stand on the schedule. -/
structure State.runEnded (s : State) : Prop where
  idle : s.phase = .idle
  no_request : s.requestPending = false
  no_call : s.outstanding = none

/-- What a run shows: the responses delivered and the bus-port event history (R258). -/
def State.observation (s : State) : List Resp × List BusEvent := (s.responses, s.busLog)

/-- The answer to a BusWrite: `OK` or `FAIL` (R16). -/
def writeAnswer (ok : Bool) : Answer := if ok then .writeOk else .writeFail

/-- The answer to a BusRead: `OK(s)` or `FAIL` (R16). -/
def readAnswer : Option (List Byte) → Answer
  | some bytes => .readOk bytes
  | none => .readFail

/-- The answers a command with a read takes from the environment: the write's, and after an `OK` the sleep's return
and the read's (R130). -/
def commandAnswers (ok : Bool) (r : Option (List Byte)) : List Input :=
  if ok then [.answer .writeOk, .answer .slept, .answer (readAnswer r)] else [.answer .writeFail]

/-- The answers the init command takes: the write's, and after an `OK` the sleep's return (R136). -/
def initAnswers (ok : Bool) : List Input :=
  if ok then [.answer .writeOk, .answer .slept] else [.answer .writeFail]

/-- The write event of a command (R62, R71). -/
def writeEvent (p : Params) (c : Command) (ok : Bool) : BusEvent where
  call := .write p.devAddr [(p.opcode c).extractLsb' 8 8, (p.opcode c).extractLsb' 0 8]
  answer := some (writeAnswer ok)

/-- The sleep event of `d` ms (R62). -/
def sleepEvent (d : Nat) : BusEvent where
  call := .sleep d
  answer := some .slept

/-- The read event of `k` bytes (R62). -/
def readEvent (p : Params) (k : Nat) (r : Option (List Byte)) : BusEvent where
  call := .read p.devAddr k
  answer := some (readAnswer r)

/-- `trace(op, n, d)` of a command with `n > 0` (R62). -/
def commandTrace (p : Params) (c : Command) (n d : Nat) (ok : Bool) (r : Option (List Byte)) : List BusEvent :=
  writeEvent p c ok :: if ok then [sleepEvent d, readEvent p (3 * n) r] else []

/-- `trace(op, 0, d)` of the init command (R62). -/
def initTrace (p : Params) (ok : Bool) : List BusEvent :=
  writeEvent p .initAirQuality ok :: if ok then [sleepEvent p.settleDefaultMs] else []

/-- The lowest index of a word that does not verify (R107, R140). -/
def firstBadWord (k : CrcParams) (bytes : List Byte) (n : Nat) : Option Nat :=
  (List.range n).find? fun i =>
    crc8 k [bytes.getD (3 * i) 0#8, bytes.getD (3 * i + 1) 0#8] != bytes.getD (3 * i + 2) 0#8

/-- The outcome of `EXEC(op, n, d)` for `n > 0`, the checks in the order of R217 item 4. -/
def commandVerdict (k : CrcParams) (n : Nat) (ok : Bool) (r : Option (List Byte)) : Verdict :=
  if ok = false then .error .transportError (.stage .write)
  else
    match r with
    | none => .error .transportError (.stage .read)
    | some bytes =>
      if bytes.length ≠ 3 * n then .error .transportError (.stage .readLength)
      else
        match firstBadWord k bytes n with
        | some i => .error .checksumMismatch (.word (BitVec.ofNat 2 i))
        | none => .ok (resultOf bytes n)

/-- SELF_TEST's own check, on a verified word only (R176, R217 item 5). -/
def selfTestVerdict (expected : Word) : Verdict → Verdict
  | .ok r =>
    if r.getD 0 0#8 = expected.extractLsb' 8 8 ∧ r.getD 1 0#8 = expected.extractLsb' 0 8 then .ok r
    else .error .unexpectedResponseValue (.value (be16 (r.getD 0 0#8) (r.getD 1 0#8)))
  | .error kind info => .error kind info

/-- The response registers show the verdict `v`: the code of R210, the length and result bytes of R81 or length 0 and
the diagnostic of R216. Bytes at and above `RESP.LEN` are not spoken of (R31). -/
def showsVerdict (r : Resp) (v : Verdict) : Prop :=
  match v with
  | .ok bytes => r.err = 0#3 ∧ r.len = bytes.length ∧ r.data.toList.take bytes.length = bytes ∧ r.info = .none
  | .error kind info => r.err = kind.code ∧ r.len = 0 ∧ r.info = info

/-- The request is over: from `s`, the operation has ended in `t` with verdict `v` after the bus events `trace`, the
schedule standing at `rest`. One response is delivered, `BUSY` is down, and what no rule writes is as before. -/
structure Responded (s t : State) (v : Verdict) (trace : List BusEvent) (rest : List Input) : Prop where
  idle : t.phase = .idle
  verdict_shown : showsVerdict t.resp v
  valid : t.respValid = true
  delivered : t.responses = s.responses ++ [t.resp]
  log : t.busLog = s.busLog ++ trace
  inputs : t.inputs = rest
  no_call : t.outstanding = none
  params : t.params = s.params
  reads : t.statusReads = s.statusReads

/-- The block is at `IDLE` with no transport call outstanding. -/
def State.atRest (s : State) : Prop := s.phase = .idle ∧ s.outstanding = none

/-- CTL has selected command `c` for operation `op` and its write is not yet issued (R131): `DESC` holds the row of `c`. -/
def State.hasSelected (s : State) (op : HostOp) (c : Command) : Prop :=
  s.phase = .write ∧ s.outstanding = none ∧ s.curOp = some op ∧ s.cmdSel = some c ∧ s.desc = descOf s.params c

/-- The scan event of CONSTRUCT (R62). -/
def scanEvent (present : List BusAddr) : BusEvent where
  call := .scan
  answer := some (.scan present)

/-- Nothing at the head of `rest` keeps the block from moving on. -/
def freeToMove (rest : List Input) : Prop := rest.head?.any Input.holdsUp = false

/-- The reset is the first thing the outside does. -/
def State.resetFirst (s : State) : Prop := ∃ rest, s.inputs = .reset :: rest

/-- Whether a bus event is a write of the init opcode (R179). -/
def isInitWrite (p : Params) (e : BusEvent) : Bool :=
  match e.call with
  | .write _ bytes => bytes = cmdBytes p.opInitAirQuality
  | _ => false

/-- The response word `[h, l, k]`, `h` first on the bus, verifies under the document's parameters (R72, R107). -/
def wordValid (w : BitVec 24) : Bool := crc8 CrcParams.default [w.extractLsb' 16 8, w.extractLsb' 8 8] = w.extractLsb' 0 8

/-- The number of bits set in an error pattern over a response word (40_crc8.md R110). -/
def patternWeight (e : BitVec 24) : Nat := (List.range 24).countP fun i => e.getLsbD i

/-- `LIFE` after CONSTRUCT has ended with a verdict: `Ready` on success only (R172). -/
def lifeAfterConstruct (before : Life) : Verdict → Life
  | .ok _ => .ready
  | .error _ _ => before

end Sys2Proof.Machine
end

