-- ==== Sys2Proof/Certificates/Slice0/Obligations.lean ====
section
/-! DEFINITION. The statements about the model, each a rule of the spec or a property that follows from several. The
block has no memory (20_memory.md R50), so no frame speaks of one. -/

open Sys2Proof Sys2Proof.Machine

/-! ## Words -/

/-- The words of R80 and R82, bit for bit, decode to their instructions, and the words of R84 and R85 to none.
The opcode values are PRESUMED (log entry 1). -/
def Obligations.TableWordsDecodeToTheirRows : Prop :=
  decodeTableWord 24 0b00000000000000000000 = some .construct ∧
  decodeTableWord 24 0b00010000000000000000 = some .identify ∧
  decodeTableWord 24 0b00100000000000000000 = some .selfTest ∧
  decodeTableWord 24 0b00110000000000000000 = some .measureAirQuality ∧
  decodeTableWord 24 0b01000000000000000000 = some .measureRawSignals ∧
  decodeTableWord 24 0b01011011111011101111 = some (.checksum 0xBEEF#16) ∧
  decodeTableWord 16 0b0011011010000010 = some .cmdGetSerialId ∧
  decodeTableWord 16 0b0010000000110010 = some .cmdMeasureTest ∧
  decodeTableWord 16 0b0010000000000011 = some .cmdInitAirQuality ∧
  decodeTableWord 16 0b0010000000001000 = some .cmdMeasureAirQuality ∧
  decodeTableWord 16 0b0010000001010000 = some .cmdMeasureRawSignals ∧
  decodeTableWord 24 0x60000 = none ∧ decodeTableWord 24 0x10001 = none ∧ decodeTableWord 16 0x2009 = none

/-- Under any pairwise distinct opcodes (R10), decoding the words of an instruction gives it back. -/
def Obligations.DecodingAnEncodedInstructionGivesItBack : Prop :=
  ∀ (p : Params), p.wf = true → ∀ i : Instr, decode p (encode p i) = .ok i

/-- No two frames spell one instruction: a frame that decodes is the frame its instruction encodes to. -/
def Obligations.ADecodedFrameIsItsEncoding : Prop :=
  ∀ (p : Params) (f : Frame) (i : Instr), decode p f = .ok i → encode p i = f

/-- R84. -/
def Obligations.ReservedRequestsAreRefused : Prop :=
  ∀ (s : State) (w : ReqWord) (rest : List Input), s.inputs = .request w :: rest →
    (6 ≤ (w.extractLsb' 16 4).toNat → step s = .refused .reservedRequest) ∧
    ((w.extractLsb' 16 4).toNat ≤ 4 → w.extractLsb' 0 16 ≠ 0#16 → step s = .refused .nonZeroData)

/-! ## A step runs the instruction at the ports -/

/-- A request word that decodes is executed, on the state with the word taken off the host port. -/
def Obligations.StepExecutesTheRequestOnTheHostPort : Prop :=
  ∀ (s : State) (w : ReqWord) (rest : List Input) (i : Instr), s.inputs = .request w :: rest →
    decode s.params (.hostReq w) = .ok i → step s = exec i { s with inputs := rest }

/-- A command that CTL has selected is executed where nothing at the head of the schedule is served before it. -/
def Obligations.StepExecutesTheSelectedCommand : Prop :=
  ∀ (s : State) (op : HostOp) (c : Command), s.hasSelected op c →
    s.heldUp = false → step s = exec (.ofCommand c) s

/-- `withFetchWord` places a HOSTREQ row so that the next step executes exactly it, on the state it was placed in.
How a row is placed is the model's choice (log entry 12). -/
def Obligations.APlacedRequestIsExecutedNext : Prop :=
  ∀ (s : State) (w : Nat) (i : Instr), w < 2 ^ 20 → decodeTableWord 24 w = some i →
    step (s.withFetchWord 24 w) = exec i s

/-- `withFetchWord` places a CMD row so that the next step executes exactly it.
How a row is placed is the model's choice (log entry 12). -/
def Obligations.APlacedCommandIsExecutedNext : Prop :=
  ∀ (s : State) (w : Nat) (i : Instr), s.params = Params.default → decodeTableWord 16 w = some i →
    step (s.withFetchWord 16 w) = exec i (s.withFetchWord 16 w)

/-! ## Acceptance -/

/-- R213: which request words are accepted in which state, and SELF_TEST after calibration is accepted. -/
def Obligations.RequestsAreAcceptedByTheTable : Prop :=
  ∀ (s : State) (w : ReqWord) (rest : List Input), s.inputs = .request w :: rest →
    ((∃ t, step s = .next t) ↔
      s.phase = .idle ∧
        (((w.extractLsb' 16 4).toNat = 0 ∧ w.extractLsb' 0 16 = 0#16 ∧ s.life = .unbound) ∨
         (1 ≤ (w.extractLsb' 16 4).toNat ∧ (w.extractLsb' 16 4).toNat ≤ 4 ∧ w.extractLsb' 0 16 = 0#16 ∧
            s.life = .ready) ∨
         (w.extractLsb' 16 4).toNat = 5)) ∧
    ((∃ t, step s = .next t) ∨ ∃ r, step s = .refused r) ∧
    (w = 0x20000#20 → s.phase = .idle → s.life = .ready → s.cal = .calibrating → freeToMove rest →
      ∃ t, step s = .next t ∧ t.resp.err = 3#3)

/-- R89, R131: a sensor command that CTL has not selected is refused.
The refusal by name is the model's choice (log entry 8). -/
def Obligations.UnselectedCommandsAreRefused : Prop :=
  ∀ (s : State) (c : Command), ¬ (s.phase = .write ∧ s.outstanding = none ∧ s.cmdSel = some c) →
    exec (.ofCommand c) s = .refused .commandNotSelected

/-- R25, the three rows from `IDLE`: what acceptance alone does. What the outside does next is served before the block
moves on, so the state shown is the one right after acceptance.
`CMDSEL` follows log entry 6. -/
def Obligations.AcceptanceEntersTheFirstPhase : Prop :=
  ∀ s : State, s.phase = .idle → s.heldUp = true →
    (s.life = .unbound → ∃ t, exec .construct s = .next t ∧ t.phase = .scan ∧ t.curOp = some .construct ∧
      t.cmdSel = none) ∧
    (s.life = .ready →
      (∃ t, exec .identify s = .next t ∧ t.phase = .write ∧ t.cmdSel = some .getSerialId ∧
        t.desc = { opcode := s.params.opGetSerialId, nwords := 3#2, delay := s.params.settleDefaultMs }) ∧
      (s.cal = .uninitialized → ∃ t, exec .selfTest s = .next t ∧ t.phase = .write ∧ t.cmdSel = some .measureTest ∧
        t.desc = { opcode := s.params.opMeasureTest, nwords := 1#2, delay := s.params.settleSelftestMs }) ∧
      (s.cal = .calibrating → ∃ t, exec .selfTest s = .next t ∧ t.phase = .finish ∧ t.cmdSel = none) ∧
      (s.cal = .uninitialized → ∃ t, exec .measureAirQuality s = .next t ∧ t.phase = .write ∧
        t.cmdSel = some .initAirQuality ∧
        t.desc = { opcode := s.params.opInitAirQuality, nwords := 0#2, delay := s.params.settleDefaultMs }) ∧
      (s.cal = .calibrating → ∃ t, exec .measureAirQuality s = .next t ∧ t.phase = .write ∧
        t.cmdSel = some .measureAirQuality ∧
        t.desc = { opcode := s.params.opMeasureAirQuality, nwords := 2#2, delay := s.params.settleDefaultMs }) ∧
      (∃ t, exec .measureRawSignals s = .next t ∧ t.phase = .write ∧ t.cmdSel = some .measureRawSignals ∧
        t.desc = { opcode := s.params.opMeasureRawSignals, nwords := 2#2, delay := s.params.settleDefaultMs })) ∧
    (∀ data, ∃ t, exec (.checksum data) s = .next t ∧ t.phase = .finish ∧ t.cmdSel = none)

/-! ## The host operations, each with every answer the environment can give -/

/-- CONSTRUCT (R170 to R172): the scan, then the identification, with every outcome of R217. -/
def Obligations.ConstructScansThenIdentifies : Prop :=
  ∀ (s : State) (present : List BusAddr) (ok : Bool) (r : Option (List Byte)) (rest : List Input),
    s.atRest → s.life = .unbound → freeToMove rest →
    (s.params.devAddr ∉ present → s.inputs = .answer (.scan present) :: rest →
      ∃ t, exec .construct s = .next t ∧
        Responded s t (.error .deviceNotFound .none) [scanEvent present] rest ∧
        t.life = .unbound ∧ t.cal = s.cal) ∧
    (s.params.devAddr ∈ present → s.inputs = .answer (.scan present) :: (commandAnswers ok r ++ rest) →
      ∃ t, exec .construct s = .next t ∧
        Responded s t (commandVerdict s.params.crc 3 ok r)
          (scanEvent present :: commandTrace s.params .getSerialId 3 s.params.settleDefaultMs ok r) rest ∧
        t.life = lifeAfterConstruct s.life (commandVerdict s.params.crc 3 ok r) ∧ t.cal = s.cal)

/-- IDENTIFY (R173). -/
def Obligations.IdentifyReturnsTheIdentifier : Prop :=
  ∀ (s : State) (ok : Bool) (r : Option (List Byte)) (rest : List Input),
    s.atRest → s.life = .ready → freeToMove rest → s.inputs = commandAnswers ok r ++ rest →
    ∃ t, exec .identify s = .next t ∧
      Responded s t (commandVerdict s.params.crc 3 ok r) (commandTrace s.params .getSerialId 3 s.params.settleDefaultMs ok r) rest ∧
      t.life = s.life ∧ t.cal = s.cal

/-- SELF_TEST before calibration (R175, R176). -/
def Obligations.SelfTestComparesTheVerifiedWord : Prop :=
  ∀ (s : State) (ok : Bool) (r : Option (List Byte)) (rest : List Input),
    s.atRest → s.life = .ready → s.cal = .uninitialized → freeToMove rest → s.inputs = commandAnswers ok r ++ rest →
    ∃ t, exec .selfTest s = .next t ∧
      Responded s t (selfTestVerdict s.params.selftestExpected (commandVerdict s.params.crc 1 ok r)) (commandTrace s.params .measureTest 1 s.params.settleSelftestMs ok r) rest ∧
      t.life = s.life ∧ t.cal = s.cal

/-- SELF_TEST after calibration has started (R175, R246): SequencingViolation and no bus traffic. -/
def Obligations.SelfTestAfterCalibrationViolatesSequencing : Prop :=
  ∀ s : State, s.atRest → s.life = .ready → s.cal = .calibrating → freeToMove s.inputs →
    ∃ t, exec .selfTest s = .next t ∧
      Responded s t (.error .sequencingViolation .none) [] s.inputs ∧ t.life = s.life ∧ t.cal = s.cal

/-- The first MEASURE_AIR_QUALITY (R178 to R180): the init command, then, unless its write failed, the measure
command; `CAL` by `CAL_SET_POINT`. -/
def Obligations.FirstMeasurementInitialisesThenMeasures : Prop :=
  ∀ (s : State) (ok : Bool) (r : Option (List Byte)) (rest : List Input),
    s.atRest → s.life = .ready → s.cal = .uninitialized → freeToMove rest →
    (s.inputs = initAnswers false ++ rest →
      ∃ t, exec .measureAirQuality s = .next t ∧
        Responded s t (.error .transportError (.stage .write)) (initTrace s.params false) rest ∧
        t.life = s.life ∧
        (s.params.calSetPoint = .beforeInit → t.cal = .calibrating) ∧
        (s.params.calSetPoint = .afterInitOk → t.cal = .uninitialized)) ∧
    (s.inputs = initAnswers true ++ (commandAnswers ok r ++ rest) →
      ∃ t, exec .measureAirQuality s = .next t ∧
        Responded s t (commandVerdict s.params.crc 2 ok r)
          (initTrace s.params true ++ commandTrace s.params .measureAirQuality 2 s.params.settleDefaultMs ok r) rest ∧
        t.life = s.life ∧ t.cal = .calibrating)

/-- A later MEASURE_AIR_QUALITY (R178, R179): the measure command only. -/
def Obligations.LaterMeasurementOnlyMeasures : Prop :=
  ∀ (s : State) (ok : Bool) (r : Option (List Byte)) (rest : List Input),
    s.atRest → s.life = .ready → s.cal = .calibrating → freeToMove rest → s.inputs = commandAnswers ok r ++ rest →
    ∃ t, exec .measureAirQuality s = .next t ∧
      Responded s t (commandVerdict s.params.crc 2 ok r) (commandTrace s.params .measureAirQuality 2 s.params.settleDefaultMs ok r) rest ∧
      t.life = s.life ∧ t.cal = s.cal

/-- MEASURE_RAW_SIGNALS (R183, R184). -/
def Obligations.RawMeasurementReturnsTheBytes : Prop :=
  ∀ (s : State) (ok : Bool) (r : Option (List Byte)) (rest : List Input),
    s.atRest → s.life = .ready → freeToMove rest → s.inputs = commandAnswers ok r ++ rest →
    ∃ t, exec .measureRawSignals s = .next t ∧
      Responded s t (commandVerdict s.params.crc 2 ok r) (commandTrace s.params .measureRawSignals 2 s.params.settleDefaultMs ok r) rest ∧
      t.life = s.life ∧ t.cal = s.cal

/-- CHECKSUM (R112): the checksum of `[data[15:8], data[7:0]]`, in any `LIFE` and `CAL`, with no bus event. -/
def Obligations.ChecksumAnswersTheCrcOfItsOperand : Prop :=
  ∀ (s : State) (data : Word), s.atRest → freeToMove s.inputs →
    ∃ t, exec (.checksum data) s = .next t ∧
      Responded s t (.ok [crc8 s.params.crc [data.extractLsb' 8 8, data.extractLsb' 0 8]]) [] s.inputs ∧
      t.life = s.life ∧ t.cal = s.cal

/-- R181 on a verified answer: `co2_ppm` and `tvoc_ppb` are the two words as they stand, with no clamping. -/
def Obligations.MeasurementIsDecodedWithoutClamping : Prop :=
  ∀ (s : State) (h0 l0 h1 l1 : Byte) (rest : List Input),
    s.atRest → s.life = .ready → s.cal = .calibrating → freeToMove rest →
    s.inputs = [.answer .writeOk, .answer .slept,
      .answer (.readOk [h0, l0, crc8 s.params.crc [h0, l0], h1, l1, crc8 s.params.crc [h1, l1]])] ++ rest →
    ∃ t, exec .measureAirQuality s = .next t ∧ t.resp.err = 0#3 ∧ t.resp.len = 4 ∧
      (measurementOf (t.resp.data.toList.take t.resp.len)).co2Ppm.toNat = h0.toNat * 256 + l0.toNat ∧
      (measurementOf (t.resp.data.toList.take t.resp.len)).tvocPpb.toNat = h1.toNat * 256 + l1.toNat

/-- R54, R76: the derived 48-bit view of the identifier. -/
def Obligations.IdentifierViewIsBigEndian : Prop :=
  ∀ a b c d e f : Byte,
    (id48 [a, b, c, d, e, f]).toNat =
      (a.toNat * 256 + b.toNat) * 2 ^ 32 + (c.toNat * 256 + d.toNat) * 2 ^ 16 + (e.toNat * 256 + f.toNat)

/-! ## The sensor commands -/

/-- GET_SERIAL_ID, MEASURE_TEST, MEASURE_AIR_QUALITY and MEASURE_RAW_SIGNALS, executed where CTL has selected them: one
transaction of R130 is the function of the environment's answers that R217 and R62 give. -/
def Obligations.ReadingCommandsRunOneTransaction : Prop :=
  ∀ (s : State) (ok : Bool) (r : Option (List Byte)) (rest : List Input),
    freeToMove rest → s.inputs = commandAnswers ok r ++ rest →
    (s.hasSelected .construct .getSerialId →
      ∃ t, exec .cmdGetSerialId s = .next t ∧
        Responded s t (commandVerdict s.params.crc 3 ok r) (commandTrace s.params .getSerialId 3 s.params.settleDefaultMs ok r) rest ∧
        t.life = lifeAfterConstruct s.life (commandVerdict s.params.crc 3 ok r) ∧ t.cal = s.cal) ∧
    (s.hasSelected .identify .getSerialId →
      ∃ t, exec .cmdGetSerialId s = .next t ∧
        Responded s t (commandVerdict s.params.crc 3 ok r) (commandTrace s.params .getSerialId 3 s.params.settleDefaultMs ok r) rest ∧
        t.life = s.life ∧ t.cal = s.cal) ∧
    (s.hasSelected .selfTest .measureTest →
      ∃ t, exec .cmdMeasureTest s = .next t ∧
        Responded s t (selfTestVerdict s.params.selftestExpected (commandVerdict s.params.crc 1 ok r))
          (commandTrace s.params .measureTest 1 s.params.settleSelftestMs ok r) rest ∧
        t.life = s.life ∧ t.cal = s.cal) ∧
    (s.hasSelected .measureAirQuality .measureAirQuality →
      ∃ t, exec .cmdMeasureAirQuality s = .next t ∧
        Responded s t (commandVerdict s.params.crc 2 ok r) (commandTrace s.params .measureAirQuality 2 s.params.settleDefaultMs ok r) rest ∧
        t.life = s.life ∧ t.cal = s.cal) ∧
    (s.hasSelected .measureRawSignals .measureRawSignals →
      ∃ t, exec .cmdMeasureRawSignals s = .next t ∧
        Responded s t (commandVerdict s.params.crc 2 ok r) (commandTrace s.params .measureRawSignals 2 s.params.settleDefaultMs ok r) rest ∧
        t.life = s.life ∧ t.cal = s.cal)

/-- INIT_AIR_QUALITY, executed where CTL has selected it (R136, R178): after the write and the sleep the command has
returned with no read, and CTL has selected MEASURE_AIR_QUALITY; no response is delivered yet. -/
def Obligations.InitCommandEndsWithoutARead : Prop :=
  ∀ (s : State) (rest : List Input),
    s.hasSelected .measureAirQuality .initAirQuality → s.inputs = initAnswers true ++ rest →
    ∃ t, exec .cmdInitAirQuality s = .next t ∧ t.hasSelected .measureAirQuality .measureAirQuality ∧
      t.busLog = s.busLog ++ initTrace s.params true ∧ t.inputs = rest ∧
      t.responses = s.responses ∧ t.resp = s.resp ∧ t.respValid = s.respValid ∧ t.rxbuf = s.rxbuf ∧
      t.life = s.life ∧ t.params = s.params ∧
      (s.params.calSetPoint = .beforeInit → t.cal = s.cal) ∧
      (s.params.calSetPoint = .afterInitOk → t.cal = .calibrating)

/-- R134, for every command: a write answered `FAIL` ends the operation with `stage(WRITE)`, no sleep, no read, no
later command. -/
def Obligations.AFailedWriteEndsTheOperation : Prop :=
  ∀ (s : State) (op : HostOp) (c : Command) (rest : List Input),
    s.hasSelected op c → freeToMove rest → s.inputs = .answer .writeFail :: rest →
    ∃ t, exec (.ofCommand c) s = .next t ∧
      Responded s t (.error .transportError (.stage .write)) [writeEvent s.params c false] rest ∧
      t.life = s.life ∧ t.cal = s.cal

/-- R139: an answer of the wrong length is a TransportError with `stage(READ_LENGTH)`, whatever its bytes. -/
def Obligations.AWrongLengthReadIsATransportError : Prop :=
  ∀ (s : State) (op : HostOp) (c : Command) (n : Nat) (bytes : List Byte) (rest : List Input),
    s.hasSelected op c → n = s.desc.nwords.toNat → n ≠ 0 → freeToMove rest →
    s.inputs = [.answer .writeOk, .answer .slept, .answer (.readOk bytes)] ++ rest → bytes.length ≠ 3 * n →
    ∃ t, exec (.ofCommand c) s = .next t ∧
      Responded s t (.error .transportError (.stage .readLength))
        [writeEvent s.params c true, sleepEvent s.desc.delay, readEvent s.params (3 * n) (some bytes)] rest ∧
      t.life = s.life ∧ t.cal = s.cal

/-- R140: words are checked in ascending order and the first that fails is reported, whatever the later ones hold. -/
def Obligations.TheLowestCorruptWordIsReported : Prop :=
  ∀ (s : State) (op : HostOp) (c : Command) (n : Nat) (bytes : List Byte) (i : Nat) (rest : List Input),
    s.hasSelected op c → n = s.desc.nwords.toNat → freeToMove rest →
    s.inputs = [.answer .writeOk, .answer .slept, .answer (.readOk bytes)] ++ rest → bytes.length = 3 * n →
    i < n → crc8 s.params.crc [bytes.getD (3 * i) 0#8, bytes.getD (3 * i + 1) 0#8] ≠ bytes.getD (3 * i + 2) 0#8 →
    (∀ j, j < i → crc8 s.params.crc [bytes.getD (3 * j) 0#8, bytes.getD (3 * j + 1) 0#8] = bytes.getD (3 * j + 2) 0#8) →
    ∃ t, exec (.ofCommand c) s = .next t ∧
      Responded s t (.error .checksumMismatch (.word (BitVec.ofNat 2 i)))
        [writeEvent s.params c true, sleepEvent s.desc.delay, readEvent s.params (3 * n) (some bytes)] rest ∧
      t.life = s.life ∧ t.cal = s.cal

/-! ## The sequencer -/

/-- R25: every move of the sequencer stays in its phase (it issues the call, or goes on to the next word) or follows an
edge of the table under the edge's condition. -/
def Obligations.EveryMoveFollowsAnEdgeOfTheTable : Prop :=
  ∀ s t : State, s.Inv → s.nextMove = some t →
    (t.phase = s.phase ∧ s.phase ≠ .idle ∧ s.phase ≠ .finish ∧ t.busLog = s.busLog) ∨ phaseEdge s t s.answerTaken

/-- An operation always comes to where it waits for the outside or has ended: no operation runs for ever by itself.
That one step runs it, with a bound on its moves, is the model's choice (log entry 10). -/
def Obligations.AnOperationRunsUntilItMustWait : Prop :=
  ∀ s : State, s.runOperation.advance = none

/-- An operation is its commands executed one after the other: going on after the first command's end reaches the same
state.
Running in one step or command by command is the model's choice (log entry 10). -/
def Obligations.AnOperationIsItsCommandsInARow : Prop :=
  ∀ s : State, s.runCommand.runOperation = s.runOperation

/-- R146: with the transport silent, each bus operation waits in its first phase with the call of its own first command
(R83) outstanding, `BUSY` up and no response. -/
def Obligations.ASilentTransportLeavesTheOperationWaiting : Prop :=
  ∀ s : State, s.atRest → s.inputs = [] →
    (s.life = .unbound → ∃ t, exec .construct s = .next t ∧ t.phase = .scan ∧ t.outstanding = some .scan ∧
      t.busy = true ∧ t.responses = s.responses ∧ t.busLog = s.busLog) ∧
    (s.life = .ready → ∀ i c,
      (i = .identify ∧ c = .getSerialId) ∨
      (i = .selfTest ∧ s.cal = .uninitialized ∧ c = .measureTest) ∨
      (i = .measureAirQuality ∧ s.cal = .uninitialized ∧ c = .initAirQuality) ∨
      (i = .measureAirQuality ∧ s.cal = .calibrating ∧ c = .measureAirQuality) ∨
      (i = .measureRawSignals ∧ c = .measureRawSignals) →
      ∃ t, exec i s = .next t ∧ t.phase = .write ∧
        t.outstanding = some (.write s.params.devAddr
          [(s.params.opcode c).extractLsb' 8 8, (s.params.opcode c).extractLsb' 0 8]) ∧
        t.cmdSel = some c ∧ t.busy = true ∧ t.responses = s.responses ∧ t.busLog = s.busLog)

/-- R133, R134, R136, R138, R171: a STEP goes on with the answer that the outstanding call waits for, however late it
comes. `rest` is what the outside does after it. The answer enters the history with its call; where more answers are
needed and none has come (`rest` empty), the block waits at the next call; where the answer ends the operation, the
response is delivered. -/
def Obligations.AStepGoesOnWithTheAnswerOfTheOutstandingCall : Prop :=
  ∀ (s : State) (call : BusCall) (a : Answer) (rest : List Input),
    s.phaseCall = some call → s.outstanding = some call → s.inputs = .answer a :: rest → answerFits call a = true →
    ∃ t, step s = .next t ∧ (s.busLog ++ [{ call := call, answer := some a }]) <+: t.busLog ∧ t.inputs <:+ rest ∧
      (∀ present, a = .scan present → s.params.devAddr ∈ present → t.phase = .write ∧ t.outstanding = none ∧
        t.cmdSel = some .getSerialId ∧ t.inputs = rest) ∧
      (a = .writeOk → rest = [] → t.phase = .settle ∧ t.outstanding = some (.sleep s.desc.delay)) ∧
      (a = .slept → s.desc.nwords ≠ 0#2 → rest = [] →
        t.phase = .read ∧ t.outstanding = some (.read s.params.devAddr (3 * s.desc.nwords.toNat))) ∧
      (a = .slept → s.desc.nwords = 0#2 → s.curOp = some .measureAirQuality → s.cmdSel = some .initAirQuality →
        t.hasSelected .measureAirQuality .measureAirQuality ∧ t.inputs = rest) ∧
      (freeToMove rest →
        (∀ present, a = .scan present → s.params.devAddr ∉ present → t.phase = .idle ∧
          t.responses = s.responses ++ [t.resp] ∧ showsVerdict t.resp (.error .deviceNotFound .none)) ∧
        (a = .writeFail → t.phase = .idle ∧
          t.responses = s.responses ++ [t.resp] ∧ showsVerdict t.resp (.error .transportError (.stage .write))) ∧
        (a = .readFail → t.phase = .idle ∧
          t.responses = s.responses ++ [t.resp] ∧ showsVerdict t.resp (.error .transportError (.stage .read))) ∧
        (∀ bytes, a = .readOk bytes → bytes.length ≠ 3 * s.desc.nwords.toNat → t.phase = .idle ∧
          t.responses = s.responses ++ [t.resp] ∧
          showsVerdict t.resp (.error .transportError (.stage .readLength))) ∧
        (∀ bytes i, a = .readOk bytes → bytes.length = 3 * s.desc.nwords.toNat →
          firstBadWord s.params.crc bytes s.desc.nwords.toNat = some i → t.phase = .idle ∧
          t.responses = s.responses ++ [t.resp] ∧
          showsVerdict t.resp (.error .checksumMismatch (.word (BitVec.ofNat 2 i)))) ∧
        (∀ bytes, a = .readOk bytes → bytes.length = 3 * s.desc.nwords.toNat → s.desc.nwords ≠ 0#2 →
          firstBadWord s.params.crc bytes s.desc.nwords.toNat = none →
          s.curOp = some .identify ∨ s.curOp = some .measureRawSignals → t.phase = .idle ∧
          t.responses = s.responses ++ [t.resp] ∧
          showsVerdict t.resp (.ok (resultOf bytes s.desc.nwords.toNat))))

/-- A command whose write is issued before its answer has come ends as it would have with the answer there. -/
def Obligations.ACommandAnsweredLateEndsAsIfAnsweredAtOnce : Prop :=
  ∀ (s : State) (op : HostOp) (c : Command) (a : Answer) (rest : List Input),
    s.hasSelected op c → s.inputs = .answer a :: rest → a = .writeOk ∨ a = .writeFail →
    step s.issueCall = exec (.ofCommand c) s

/-- R240: the answer to a call that a reset has abandoned is discarded wherever it comes, at `IDLE` and while a new call
of whatever kind waits for its own answer. That such an answer is an input of its own is the model's choice (log
entry 14). -/
def Obligations.LateAnswersAreDiscarded : Prop :=
  ∀ (s : State) (a : Answer) (rest : List Input), s.inputs = .lateAnswer a :: rest →
    s.phase = .idle ∨ (∃ call, s.phaseCall = some call ∧ s.outstanding = some call) →
    step s = .next { s with inputs := rest }

/-- R146: a call that is never answered leaves the block as it is for ever, however many steps are made.
The stuck state as a step to itself is the model's choice (log entry 9). -/
def Obligations.AnUnansweredCallIsAStuckState : Prop :=
  ∀ (s : State) (call : BusCall) (k : Nat), s.phaseCall = some call → s.outstanding = some call → s.inputs = [] →
    s.params.transportMayHang = true → Sys2Proof.core.run k s = .next s ∧ s.busy = true

/-! ## Invariants and frames -/

/-- The invariant holds at reset.
The values of the scratch registers there are the model's choice (log entry 3). -/
def Obligations.TheInvariantHoldsAtReset : Prop := State.reset.Inv

/-- The invariant is kept by every step. -/
def Obligations.EveryStepKeepsTheInvariant : Prop :=
  ∀ s t : State, s.Inv → step s = .next t → t.Inv

/-- R39: no step changes the parameters. -/
def Obligations.NoStepChangesTheParameters : Prop :=
  ∀ s t : State, step s = .next t → t.params = s.params

/-- R23, R179: `CAL` never goes back except by reset. -/
def Obligations.OnlyResetReturnsCalToUninitialized : Prop :=
  ∀ s t : State, step s = .next t → ¬ s.resetFirst → s.cal = .calibrating → t.cal = .calibrating

/-- R22: `LIFE` never goes back except by reset, and only CONSTRUCT sets it. -/
def Obligations.OnlyConstructSetsLifeAndOnlyResetClearsIt : Prop :=
  ∀ s t : State, step s = .next t → ¬ s.resetFirst →
    (s.life = .ready → t.life = .ready) ∧
    (s.Inv → s.life = .unbound → t.life = .ready →
      s.curOp = some .construct ∧ s.phase ≠ .idle ∨
        (s.phase = .idle ∧ ∃ rest, s.inputs = .request 0x00000#20 :: rest))

/-- The frame of every instruction: what an instruction that goes on leaves as it was. The bus history is only
extended, and the schedule only consumed. `LIFE` changes in construction only, `CAL` in the first MEASURE_AIR_QUALITY
only. -/
def Obligations.EveryInstructionKeepsWhatItDoesNotName : Prop :=
  ∀ (i : Instr) (s t : State), s.Inv → exec i s = .next t →
    t.params = s.params ∧ t.statusReads = s.statusReads ∧ s.busLog <+: t.busLog ∧ t.inputs <:+ s.inputs ∧
    (i ≠ .construct → ¬ (i = .cmdGetSerialId ∧ s.curOp = some .construct) → t.life = s.life) ∧
    (i ≠ .measureAirQuality → i ≠ .cmdInitAirQuality → t.cal = s.cal) ∧
    ((t.responses = s.responses ∧ t.resp = s.resp ∧ t.respValid = s.respValid ∧ t.busy = true) ∨
     (t.responses = s.responses ++ [t.resp] ∧ t.respValid = true ∧ t.busy = false))

/-- R31, R145: a step delivers at most one response, the response registers change with a delivery only, and the block
is at `IDLE` then. -/
def Obligations.ResponseRegistersChangeOnDeliveryOnly : Prop :=
  ∀ s t : State, step s = .next t → ¬ s.resetFirst →
    (t.responses = s.responses ∧ t.resp = s.resp ∧ t.respValid = s.respValid) ∨
    (t.responses = s.responses ++ [t.resp] ∧ t.respValid = true ∧ t.phase = .idle)

/-- R61: the bus-port events form one order that a step only extends. That a reset keeps the history is DEDUCED (log
entry 13), and that it extends it by an outstanding call without an answer is the model's choice (log entry 22). -/
def Obligations.TheBusHistoryIsOnlyExtended : Prop :=
  ∀ s t : State, step s = .next t → s.busLog <+: t.busLog

/-- R56: whatever the environment answers, every write a step makes goes to `DEV_ADDR` and carries the two bytes of
one of the five opcodes, high byte first, and every read goes to `DEV_ADDR` and asks for 3, 6 or 9 bytes; the same of a
call it leaves outstanding. -/
def Obligations.WritesCarryAnOpcodeAndReadsAskForWholeWords : Prop :=
  ∀ s t : State, s.Inv → step s = .next t →
    ∃ made, t.busLog = s.busLog ++ made ∧
      ∀ call, (call ∈ made.map BusEvent.call ∨ t.outstanding = some call) →
        (∀ a bytes, call = .write a bytes → a = s.params.devAddr ∧
          ∃ c, bytes = [(s.params.opcode c).extractLsb' 8 8, (s.params.opcode c).extractLsb' 0 8]) ∧
        (∀ a n, call = .read a n → a = s.params.devAddr ∧ (n = 3 ∨ n = 6 ∨ n = 9))

/-- R179: once `CAL = Calibrating`, no later MEASURE_AIR_QUALITY issues the init command, whatever the environment
does. -/
def Obligations.CalibratedMeasurementsNeverReissueTheInit : Prop :=
  ∀ s t : State, s.Inv → s.params.wf = true → s.cal = .calibrating → exec .measureAirQuality s = .next t →
    t.busLog.countP (isInitWrite s.params) = s.busLog.countP (isInitWrite s.params) ∧
      t.outstanding ≠ some (.write s.params.devAddr (cmdBytes s.params.opInitAirQuality))

/-- No behaviour of the block is a fault (93_implementation_defined.md part 1, U6): a step faults only where `TRANSPORT_MAY_HANG` is false and the
schedule ends while a call waits.
That an excluded run faults is the model's choice (log entry 9). -/
def Obligations.OnlyAnExcludedSilenceFaults : Prop :=
  ∀ (s : State) (r : Fault), step s = .fault r →
    r = .transportSilent ∧ s.params.transportMayHang = false ∧ s.outstanding ≠ none ∧ s.inputs = []

/-! ## The parameters -/

/-- The settings R9 gives, which `State.reset` carries. The opcode values are PRESUMED (log entry 1). -/
def Obligations.ResetCarriesTheSettingsOfTheParameterTable : Prop :=
  State.reset.params.devAddr = 0x58#7 ∧ State.reset.params.crc.poly = 0x31#8 ∧ State.reset.params.crc.init = 0xFF#8 ∧
  State.reset.params.crc.xorOut = 0x00#8 ∧ State.reset.params.settleDefaultMs = 10 ∧
  State.reset.params.settleSelftestMs = 250 ∧ State.reset.params.selftestExpected = 0xD400#16 ∧
  State.reset.params.sensorRangeMax = 60000 ∧ State.reset.params.opGetSerialId = 0x3682#16 ∧
  State.reset.params.opMeasureTest = 0x2032#16 ∧ State.reset.params.opInitAirQuality = 0x2003#16 ∧
  State.reset.params.opMeasureAirQuality = 0x2008#16 ∧ State.reset.params.opMeasureRawSignals = 0x2050#16 ∧
  State.reset.params.calSetPoint = .beforeInit ∧ State.reset.params.transportMayHang = true

/-! ## Reset and the status outputs -/

/-- R38, the registers the spec gives a reset value.
The refusal of a read is R38's own. -/
def Obligations.ResetLeavesTheStatedValues : Prop :=
  State.reset.life = .unbound ∧ State.reset.cal = .uninitialized ∧ State.reset.phase = .idle ∧
  State.reset.curOp = none ∧ State.reset.cmdSel = none ∧
  (∀ r, State.reset.readStatus r = none ↔ r = .respErr ∨ r = .respLen ∨ r = .respData ∨ r = .respInfo)

/-- R240: reset at any time abandons the request in flight with no response. An answer that is the very next input is
discarded; one that comes later is a `lateAnswer`, which `LateAnswersAreDiscarded` speaks of (log entry 14). That
parameters and histories stay is DEDUCED (log entry 13), and that an outstanding call enters the history unanswered is
the model's choice (log entry 22). -/
def Obligations.ResetAbandonsTheRequestInFlight : Prop :=
  ∀ (s : State) (rest : List Input), s.inputs = .reset :: rest →
    ∃ t, step s = .next t ∧ t.life = .unbound ∧ t.cal = .uninitialized ∧ t.phase = .idle ∧ t.busy = false ∧
      t.curOp = none ∧ t.cmdSel = none ∧ t.respValid = false ∧ t.outstanding = none ∧
      t.responses = s.responses ∧ t.params = s.params ∧ t.inputs = rest ∧
      (s.outstanding = none → t.busLog = s.busLog) ∧
      (∀ call, s.outstanding = some call → t.busLog = s.busLog ++ [{ call := call, answer := none }]) ∧
      (∀ a rest', rest = .answer a :: rest' ∨ rest = .lateAnswer a :: rest' → step t = .next { t with inputs := rest' })

/-- R33, R213: a host read of `BUSY` that follows a move of the block is served before the next one. The first four
clauses name places where no answer separates the moves: `FINISH` of a CHECKSUM and of a guarded SELF_TEST, `VERIFY` right
after the read's answer and between two words. The next two are of any move, one made alone and one made on an answer, and
so cover `FINISH` after `VERIFY` or a failing answer and the gap before a call is issued. A CHECKSUM request outside
`IDLE` is refused. That the schedule says where an input lands, and what one move is, are the model's choice (log
entry 7). -/
def Obligations.TheHostReachesTheBlockBetweenAnyTwoMoves : Prop :=
  ∀ (s : State) (rest : List Input),
    (s.phase = .idle → s.inputs = .statusRead .busy :: rest →
      (∀ data, ∃ t u, exec (.checksum data) s = .next t ∧ t.phase = .finish ∧ step t = .next u ∧ u.phase = .finish ∧
        u.statusReads = s.statusReads ++ [.busy true]) ∧
      (s.life = .ready → s.cal = .calibrating → ∃ t u, exec .selfTest s = .next t ∧ t.phase = .finish ∧
        step t = .next u ∧ u.phase = .finish ∧ u.statusReads = s.statusReads ++ [.busy true])) ∧
    (∀ call bytes, s.phase = .read → s.outstanding = some call → bytes.length = 3 * s.desc.nwords.toNat →
      s.inputs = .answer (.readOk bytes) :: .statusRead .busy :: rest →
      ∃ t u, step s = .next t ∧ t.phase = .verify ∧ t.widx = 0#2 ∧ step t = .next u ∧ u.phase = .verify ∧
        u.statusReads = s.statusReads ++ [.busy true]) ∧
    (s.phase = .verify → s.widx.toNat + 1 < s.desc.nwords.toNat →
      crc8 s.params.crc [s.rxbuf.getD (3 * s.widx.toNat) 0#8, s.rxbuf.getD (3 * s.widx.toNat + 1) 0#8]
        = s.rxbuf.getD (3 * s.widx.toNat + 2) 0#8 →
      s.inputs = .move :: .statusRead .busy :: rest →
      ∃ t u, step s = .next t ∧ t.phase = .verify ∧ t.widx = s.widx + 1#2 ∧ step t = .next u ∧ u.phase = .verify ∧
        u.statusReads = s.statusReads ++ [.busy true]) ∧
    (∀ v, s.inputs = .move :: .statusRead .busy :: rest →
      State.nextMove { s with inputs := .statusRead .busy :: rest } = some v →
      ∃ u, step s = .next v ∧ step v = .next u ∧ u.phase = v.phase ∧
        u.statusReads = s.statusReads ++ [.busy (v.phase != .idle)]) ∧
    (∀ call a v, s.phaseCall = some call → s.outstanding = some call →
      s.inputs = .answer a :: .statusRead .busy :: rest → s.nextMove = some v →
      ∃ u, step s = .next v ∧ step v = .next u ∧ u.phase = v.phase ∧
        u.statusReads = s.statusReads ++ [.busy (v.phase != .idle)]) ∧
    (∀ data, s.phase ≠ .idle → s.inputs = .request (reqWord 0x5#4 data) :: rest → step s = .refused .busy)

/-- R33, R38, R248: the host reads `LIFE`, `CAL` and `BUSY` at any time and `RESP.*` after the first response since
reset, with no effect on the block; before that the read is refused. -/
def Obligations.StatusOutputsAreReadWithoutEffect : Prop :=
  ∀ (s : State) (r : StatusReg) (rest : List Input), s.inputs = .statusRead r :: rest →
    (r = .life → step s = .next { s with inputs := rest, statusReads := s.statusReads ++ [.life s.life] }) ∧
    (r = .cal → step s = .next { s with inputs := rest, statusReads := s.statusReads ++ [.cal s.cal] }) ∧
    (r = .busy →
      step s = .next { s with inputs := rest, statusReads := s.statusReads ++ [.busy (s.phase != .idle)] }) ∧
    (s.respValid = true →
      (r = .respErr → step s = .next { s with inputs := rest, statusReads := s.statusReads ++ [.respErr s.resp.err] }) ∧
      (r = .respLen → step s = .next { s with inputs := rest, statusReads := s.statusReads ++ [.respLen s.resp.len] }) ∧
      (r = .respData →
        step s = .next { s with inputs := rest, statusReads := s.statusReads ++ [.respData s.resp.data] }) ∧
      (r = .respInfo →
        step s = .next { s with inputs := rest, statusReads := s.statusReads ++ [.respInfo s.resp.info] })) ∧
    (s.respValid = false → r ≠ .life → r ≠ .cal → r ≠ .busy → step s = .refused .respNoValue)

/-- R258: a run that has ended stays ended and its observation stays as it is, whatever but a request still stands on
the schedule: a host read, a reset, an answer that no call waits for, a quiet moment. Each is served; only a read of
`RESP.*` that R38 refuses is refused. With nothing left the state stays as it is. The step to itself, and that a request
anywhere on the schedule is a pending one, are the model's choice (log entry 9); that a reset keeps the observation is
DEDUCED (log entry 13). -/
def Obligations.AnEndedRunStaysEnded : Prop :=
  ∀ s : State, s.runEnded →
    (∃ t, step s = .next t ∧ t.runEnded ∧ t.observation = s.observation ∧ t.inputs = s.inputs.tail ∧
      (s.inputs = [] → t = s)) ∨
    (step s = .refused .respNoValue ∧ ∃ r rest, s.inputs = .statusRead r :: rest ∧ s.readStatus r = none)

/-! ## CRCGEN -/

/-- R103: one bit step in unbounded arithmetic, both branches modulo 256, for any polynomial. -/
def Obligations.CrcBitStepIsShiftAndConditionalXor : Prop :=
  ∀ (k : CrcParams) (c : Byte), (crcBitStep k c).toNat =
    if c.getLsbD 7 then ((c.toNat <<< 1) ^^^ k.poly.toNat) % 256 else (c.toNat <<< 1) % 256

/-- R30, R111: the bit-serial registers compute the function of R100 over a word, and the two counters have come round.
The bit-serial build is the model's choice among those of R111 (log entry 11). -/
def Obligations.BitSerialCrcgenComputesCrc8 : Prop :=
  ∀ (k : CrcParams) (h l : Byte),
    (crcgen k h l).value k = crc8 k [h, l] ∧ (crcgen k h l).bit = 0#3 ∧ (crcgen k h l).byte = 0#1

/-- Under the document's parameters, the table of R108 is 8 bit steps at every index, and two look-ups compute the checksum of a word. -/
def Obligations.CrcTableComputesCrc8 : Prop :=
  crcTable.length = 256 ∧ (∀ x : Byte, crcTableAt x = crcBitSteps CrcParams.default 8 x) ∧
  ∀ h l : Byte, crc8 CrcParams.default [h, l] = crcTableAt (crcTableAt (h ^^^ 0xFF#8) ^^^ l)

/-- The algebraic facts of R109, under the document's parameters: affine, zero residue, a bijection in each byte, and the short
inputs. -/
def Obligations.CrcIsAffineAndBijectiveInEachByte : Prop :=
  (∀ h l h' l' : Byte, crc8 CrcParams.default [h ^^^ h', l ^^^ l'] = crc8 CrcParams.default [h, l] ^^^ crc8 CrcParams.default [h', l'] ^^^ 0x81#8) ∧
  (∀ h l : Byte, crc8 CrcParams.default [h, l, crc8 CrcParams.default [h, l]] = 0x00#8) ∧
  (∀ h l l' : Byte, crc8 CrcParams.default [h, l] = crc8 CrcParams.default [h, l'] → l = l') ∧
  (∀ h h' l : Byte, crc8 CrcParams.default [h, l] = crc8 CrcParams.default [h', l] → h = h') ∧
  (∀ h k : Byte, ∃ l, crc8 CrcParams.default [h, l] = k) ∧ (∀ l k : Byte, ∃ h, crc8 CrcParams.default [h, l] = k) ∧
  crc8 CrcParams.default [] = 0xFF#8 ∧ crc8 CrcParams.default [0x00#8] = 0xAC#8 ∧ crc8 CrcParams.default [0xFF#8] = 0x00#8

/-- The error patterns of R110 that verification always detects: odd weight, weight 2, and bursts of length 8 or less. -/
def Obligations.CrcDetectsOddDoubleAndBurstErrors : Prop :=
  ∀ w e : BitVec 24, wordValid w = true →
    (patternWeight e % 2 = 1 ∨ patternWeight e = 2 ∨
      ∃ (i : Nat) (b : BitVec 24), b ≠ 0#24 ∧ b.toNat < 256 ∧ i ≤ 16 ∧ e = b <<< i) →
    wordValid (w ^^^ e) = false
end

