-- ==== Sys2Proof/Laws/State.lean ====
section
/-! SUPPORT. What each named update of the state does to each field, one lemma for each pair, true by rfl. -/

namespace Sys2Proof.Machine

/-- The size of a response word as a numeral, for arithmetic. -/
@[simp] theorem wordBytes_eq : Config.wordBytes = 3 := rfl

@[simp] theorem maxWords_eq : Config.maxWords = 3 := rfl

@[simp] theorem State.setLife_params (s : State) (v : Life) : (s.setLife v).params = s.params := rfl
@[simp] theorem State.setLife_life (s : State) (v : Life) : (s.setLife v).life = v := rfl
@[simp] theorem State.setLife_cal (s : State) (v : Life) : (s.setLife v).cal = s.cal := rfl
@[simp] theorem State.setLife_phase (s : State) (v : Life) : (s.setLife v).phase = s.phase := rfl
@[simp] theorem State.setLife_curOp (s : State) (v : Life) : (s.setLife v).curOp = s.curOp := rfl
@[simp] theorem State.setLife_cmdSel (s : State) (v : Life) : (s.setLife v).cmdSel = s.cmdSel := rfl
@[simp] theorem State.setLife_desc (s : State) (v : Life) : (s.setLife v).desc = s.desc := rfl
@[simp] theorem State.setLife_rxbuf (s : State) (v : Life) : (s.setLife v).rxbuf = s.rxbuf := rfl
@[simp] theorem State.setLife_widx (s : State) (v : Life) : (s.setLife v).widx = s.widx := rfl
@[simp] theorem State.setLife_crc (s : State) (v : Life) : (s.setLife v).crc = s.crc := rfl
@[simp] theorem State.setLife_resp (s : State) (v : Life) : (s.setLife v).resp = s.resp := rfl
@[simp] theorem State.setLife_respValid (s : State) (v : Life) : (s.setLife v).respValid = s.respValid := rfl
@[simp] theorem State.setLife_verdict (s : State) (v : Life) : (s.setLife v).verdict = s.verdict := rfl
@[simp] theorem State.setLife_outstanding (s : State) (v : Life) : (s.setLife v).outstanding = s.outstanding := rfl
@[simp] theorem State.setLife_inputs (s : State) (v : Life) : (s.setLife v).inputs = s.inputs := rfl
@[simp] theorem State.setLife_busLog (s : State) (v : Life) : (s.setLife v).busLog = s.busLog := rfl
@[simp] theorem State.setLife_responses (s : State) (v : Life) : (s.setLife v).responses = s.responses := rfl
@[simp] theorem State.setLife_statusReads (s : State) (v : Life) : (s.setLife v).statusReads = s.statusReads := rfl
@[simp] theorem State.setLife_freeCount (s : State) (v : Life) : (s.setLife v).freeCount = s.freeCount := rfl

@[simp] theorem State.setCal_params (s : State) (v : Cal) : (s.setCal v).params = s.params := rfl
@[simp] theorem State.setCal_life (s : State) (v : Cal) : (s.setCal v).life = s.life := rfl
@[simp] theorem State.setCal_cal (s : State) (v : Cal) : (s.setCal v).cal = v := rfl
@[simp] theorem State.setCal_phase (s : State) (v : Cal) : (s.setCal v).phase = s.phase := rfl
@[simp] theorem State.setCal_curOp (s : State) (v : Cal) : (s.setCal v).curOp = s.curOp := rfl
@[simp] theorem State.setCal_cmdSel (s : State) (v : Cal) : (s.setCal v).cmdSel = s.cmdSel := rfl
@[simp] theorem State.setCal_desc (s : State) (v : Cal) : (s.setCal v).desc = s.desc := rfl
@[simp] theorem State.setCal_rxbuf (s : State) (v : Cal) : (s.setCal v).rxbuf = s.rxbuf := rfl
@[simp] theorem State.setCal_widx (s : State) (v : Cal) : (s.setCal v).widx = s.widx := rfl
@[simp] theorem State.setCal_crc (s : State) (v : Cal) : (s.setCal v).crc = s.crc := rfl
@[simp] theorem State.setCal_resp (s : State) (v : Cal) : (s.setCal v).resp = s.resp := rfl
@[simp] theorem State.setCal_respValid (s : State) (v : Cal) : (s.setCal v).respValid = s.respValid := rfl
@[simp] theorem State.setCal_verdict (s : State) (v : Cal) : (s.setCal v).verdict = s.verdict := rfl
@[simp] theorem State.setCal_outstanding (s : State) (v : Cal) : (s.setCal v).outstanding = s.outstanding := rfl
@[simp] theorem State.setCal_inputs (s : State) (v : Cal) : (s.setCal v).inputs = s.inputs := rfl
@[simp] theorem State.setCal_busLog (s : State) (v : Cal) : (s.setCal v).busLog = s.busLog := rfl
@[simp] theorem State.setCal_responses (s : State) (v : Cal) : (s.setCal v).responses = s.responses := rfl
@[simp] theorem State.setCal_statusReads (s : State) (v : Cal) : (s.setCal v).statusReads = s.statusReads := rfl
@[simp] theorem State.setCal_freeCount (s : State) (v : Cal) : (s.setCal v).freeCount = s.freeCount := rfl

@[simp] theorem State.begin_params (s : State) (op : HostOp) : (s.begin op).params = s.params := rfl
@[simp] theorem State.begin_life (s : State) (op : HostOp) : (s.begin op).life = s.life := rfl
@[simp] theorem State.begin_cal (s : State) (op : HostOp) : (s.begin op).cal = s.cal := rfl
@[simp] theorem State.begin_phase (s : State) (op : HostOp) : (s.begin op).phase = s.phase := rfl
@[simp] theorem State.begin_curOp (s : State) (op : HostOp) : (s.begin op).curOp = some op := rfl
@[simp] theorem State.begin_cmdSel (s : State) (op : HostOp) : (s.begin op).cmdSel = none := rfl
@[simp] theorem State.begin_desc (s : State) (op : HostOp) : (s.begin op).desc = s.desc := rfl
@[simp] theorem State.begin_rxbuf (s : State) (op : HostOp) : (s.begin op).rxbuf = s.rxbuf := rfl
@[simp] theorem State.begin_widx (s : State) (op : HostOp) : (s.begin op).widx = s.widx := rfl
@[simp] theorem State.begin_crc (s : State) (op : HostOp) : (s.begin op).crc = s.crc := rfl
@[simp] theorem State.begin_resp (s : State) (op : HostOp) : (s.begin op).resp = s.resp := rfl
@[simp] theorem State.begin_respValid (s : State) (op : HostOp) : (s.begin op).respValid = s.respValid := rfl
@[simp] theorem State.begin_verdict (s : State) (op : HostOp) : (s.begin op).verdict = s.verdict := rfl
@[simp] theorem State.begin_outstanding (s : State) (op : HostOp) : (s.begin op).outstanding = s.outstanding := rfl
@[simp] theorem State.begin_inputs (s : State) (op : HostOp) : (s.begin op).inputs = s.inputs := rfl
@[simp] theorem State.begin_busLog (s : State) (op : HostOp) : (s.begin op).busLog = s.busLog := rfl
@[simp] theorem State.begin_responses (s : State) (op : HostOp) : (s.begin op).responses = s.responses := rfl
@[simp] theorem State.begin_statusReads (s : State) (op : HostOp) : (s.begin op).statusReads = s.statusReads := rfl
@[simp] theorem State.begin_freeCount (s : State) (op : HostOp) : (s.begin op).freeCount = s.freeCount := rfl

@[simp] theorem State.startScan_params (s : State) : (s.startScan).params = s.params := rfl
@[simp] theorem State.startScan_life (s : State) : (s.startScan).life = s.life := rfl
@[simp] theorem State.startScan_cal (s : State) : (s.startScan).cal = s.cal := rfl
@[simp] theorem State.startScan_phase (s : State) : (s.startScan).phase = .scan := rfl
@[simp] theorem State.startScan_curOp (s : State) : (s.startScan).curOp = s.curOp := rfl
@[simp] theorem State.startScan_cmdSel (s : State) : (s.startScan).cmdSel = s.cmdSel := rfl
@[simp] theorem State.startScan_desc (s : State) : (s.startScan).desc = s.desc := rfl
@[simp] theorem State.startScan_rxbuf (s : State) : (s.startScan).rxbuf = s.rxbuf := rfl
@[simp] theorem State.startScan_widx (s : State) : (s.startScan).widx = s.widx := rfl
@[simp] theorem State.startScan_crc (s : State) : (s.startScan).crc = s.crc := rfl
@[simp] theorem State.startScan_resp (s : State) : (s.startScan).resp = s.resp := rfl
@[simp] theorem State.startScan_respValid (s : State) : (s.startScan).respValid = s.respValid := rfl
@[simp] theorem State.startScan_verdict (s : State) : (s.startScan).verdict = s.verdict := rfl
@[simp] theorem State.startScan_outstanding (s : State) : (s.startScan).outstanding = s.outstanding := rfl
@[simp] theorem State.startScan_inputs (s : State) : (s.startScan).inputs = s.inputs := rfl
@[simp] theorem State.startScan_busLog (s : State) : (s.startScan).busLog = s.busLog := rfl
@[simp] theorem State.startScan_responses (s : State) : (s.startScan).responses = s.responses := rfl
@[simp] theorem State.startScan_statusReads (s : State) : (s.startScan).statusReads = s.statusReads := rfl
@[simp] theorem State.startScan_freeCount (s : State) : (s.startScan).freeCount = s.freeCount := rfl

@[simp] theorem State.select_params (s : State) (c : Command) : (s.select c).params = s.params := rfl
@[simp] theorem State.select_life (s : State) (c : Command) : (s.select c).life = s.life := rfl
@[simp] theorem State.select_cal (s : State) (c : Command) : (s.select c).cal = s.cal := rfl
@[simp] theorem State.select_phase (s : State) (c : Command) : (s.select c).phase = .write := rfl
@[simp] theorem State.select_curOp (s : State) (c : Command) : (s.select c).curOp = s.curOp := rfl
@[simp] theorem State.select_cmdSel (s : State) (c : Command) : (s.select c).cmdSel = some c := rfl
@[simp] theorem State.select_desc (s : State) (c : Command) : (s.select c).desc = descOf s.params c := rfl
@[simp] theorem State.select_rxbuf (s : State) (c : Command) : (s.select c).rxbuf = s.rxbuf := rfl
@[simp] theorem State.select_widx (s : State) (c : Command) : (s.select c).widx = s.widx := rfl
@[simp] theorem State.select_crc (s : State) (c : Command) : (s.select c).crc = s.crc := rfl
@[simp] theorem State.select_resp (s : State) (c : Command) : (s.select c).resp = s.resp := rfl
@[simp] theorem State.select_respValid (s : State) (c : Command) : (s.select c).respValid = s.respValid := rfl
@[simp] theorem State.select_verdict (s : State) (c : Command) : (s.select c).verdict = s.verdict := rfl
@[simp] theorem State.select_outstanding (s : State) (c : Command) : (s.select c).outstanding = s.outstanding := rfl
@[simp] theorem State.select_inputs (s : State) (c : Command) : (s.select c).inputs = s.inputs := rfl
@[simp] theorem State.select_busLog (s : State) (c : Command) : (s.select c).busLog = s.busLog := rfl
@[simp] theorem State.select_responses (s : State) (c : Command) : (s.select c).responses = s.responses := rfl
@[simp] theorem State.select_statusReads (s : State) (c : Command) : (s.select c).statusReads = s.statusReads := rfl
@[simp] theorem State.select_freeCount (s : State) (c : Command) : (s.select c).freeCount = s.freeCount := rfl

@[simp] theorem State.conclude_params (s : State) (v : Verdict) : (s.conclude v).params = s.params := rfl
@[simp] theorem State.conclude_life (s : State) (v : Verdict) : (s.conclude v).life = s.life := rfl
@[simp] theorem State.conclude_cal (s : State) (v : Verdict) : (s.conclude v).cal = s.cal := rfl
@[simp] theorem State.conclude_phase (s : State) (v : Verdict) : (s.conclude v).phase = .finish := rfl
@[simp] theorem State.conclude_curOp (s : State) (v : Verdict) : (s.conclude v).curOp = s.curOp := rfl
@[simp] theorem State.conclude_cmdSel (s : State) (v : Verdict) : (s.conclude v).cmdSel = s.cmdSel := rfl
@[simp] theorem State.conclude_desc (s : State) (v : Verdict) : (s.conclude v).desc = s.desc := rfl
@[simp] theorem State.conclude_rxbuf (s : State) (v : Verdict) : (s.conclude v).rxbuf = s.rxbuf := rfl
@[simp] theorem State.conclude_widx (s : State) (v : Verdict) : (s.conclude v).widx = s.widx := rfl
@[simp] theorem State.conclude_crc (s : State) (v : Verdict) : (s.conclude v).crc = s.crc := rfl
@[simp] theorem State.conclude_resp (s : State) (v : Verdict) : (s.conclude v).resp = s.resp := rfl
@[simp] theorem State.conclude_respValid (s : State) (v : Verdict) : (s.conclude v).respValid = s.respValid := rfl
@[simp] theorem State.conclude_verdict (s : State) (v : Verdict) : (s.conclude v).verdict = some v := rfl
@[simp] theorem State.conclude_outstanding (s : State) (v : Verdict) : (s.conclude v).outstanding = s.outstanding := rfl
@[simp] theorem State.conclude_inputs (s : State) (v : Verdict) : (s.conclude v).inputs = s.inputs := rfl
@[simp] theorem State.conclude_busLog (s : State) (v : Verdict) : (s.conclude v).busLog = s.busLog := rfl
@[simp] theorem State.conclude_responses (s : State) (v : Verdict) : (s.conclude v).responses = s.responses := rfl
@[simp] theorem State.conclude_statusReads (s : State) (v : Verdict) : (s.conclude v).statusReads = s.statusReads := rfl
@[simp] theorem State.conclude_freeCount (s : State) (v : Verdict) : (s.conclude v).freeCount = s.freeCount := rfl

@[simp] theorem State.writeResp_params (s : State) (v : Verdict) : (s.writeResp v).params = s.params := rfl
@[simp] theorem State.writeResp_life (s : State) (v : Verdict) : (s.writeResp v).life = s.life := rfl
@[simp] theorem State.writeResp_cal (s : State) (v : Verdict) : (s.writeResp v).cal = s.cal := rfl
@[simp] theorem State.writeResp_phase (s : State) (v : Verdict) : (s.writeResp v).phase = s.phase := rfl
@[simp] theorem State.writeResp_curOp (s : State) (v : Verdict) : (s.writeResp v).curOp = s.curOp := rfl
@[simp] theorem State.writeResp_cmdSel (s : State) (v : Verdict) : (s.writeResp v).cmdSel = s.cmdSel := rfl
@[simp] theorem State.writeResp_desc (s : State) (v : Verdict) : (s.writeResp v).desc = s.desc := rfl
@[simp] theorem State.writeResp_rxbuf (s : State) (v : Verdict) : (s.writeResp v).rxbuf = s.rxbuf := rfl
@[simp] theorem State.writeResp_widx (s : State) (v : Verdict) : (s.writeResp v).widx = s.widx := rfl
@[simp] theorem State.writeResp_crc (s : State) (v : Verdict) : (s.writeResp v).crc = s.crc := rfl
@[simp] theorem State.writeResp_resp (s : State) (v : Verdict) : (s.writeResp v).resp = respOf v s.freeCount := rfl
@[simp] theorem State.writeResp_respValid (s : State) (v : Verdict) : (s.writeResp v).respValid = true := rfl
@[simp] theorem State.writeResp_verdict (s : State) (v : Verdict) : (s.writeResp v).verdict = none := rfl
@[simp] theorem State.writeResp_outstanding (s : State) (v : Verdict) : (s.writeResp v).outstanding = s.outstanding := rfl
@[simp] theorem State.writeResp_inputs (s : State) (v : Verdict) : (s.writeResp v).inputs = s.inputs := rfl
@[simp] theorem State.writeResp_busLog (s : State) (v : Verdict) : (s.writeResp v).busLog = s.busLog := rfl
@[simp] theorem State.writeResp_responses (s : State) (v : Verdict) : (s.writeResp v).responses = s.responses ++ [respOf v s.freeCount] := rfl
@[simp] theorem State.writeResp_statusReads (s : State) (v : Verdict) : (s.writeResp v).statusReads = s.statusReads := rfl
@[simp] theorem State.writeResp_freeCount (s : State) (v : Verdict) : (s.writeResp v).freeCount = s.freeCount := rfl

@[simp] theorem State.goIdle_params (s : State) : (s.goIdle).params = s.params := rfl
@[simp] theorem State.goIdle_life (s : State) : (s.goIdle).life = s.life := rfl
@[simp] theorem State.goIdle_cal (s : State) : (s.goIdle).cal = s.cal := rfl
@[simp] theorem State.goIdle_phase (s : State) : (s.goIdle).phase = .idle := rfl
@[simp] theorem State.goIdle_curOp (s : State) : (s.goIdle).curOp = Config.freeHostOp s.freeCount := rfl
@[simp] theorem State.goIdle_cmdSel (s : State) : (s.goIdle).cmdSel = none := rfl
@[simp] theorem State.goIdle_desc (s : State) : (s.goIdle).desc = { opcode := Config.freeWord s.freeCount, nwords := Config.freeTwoBits s.freeCount, delay := Config.freeDelay s.freeCount } := rfl
@[simp] theorem State.goIdle_rxbuf (s : State) : (s.goIdle).rxbuf = (Config.freeBytes s.freeCount).take (Config.wordBytes * Config.maxWords) := rfl
@[simp] theorem State.goIdle_widx (s : State) : (s.goIdle).widx = Config.freeTwoBits (s.freeCount + 1) := rfl
@[simp] theorem State.goIdle_crc (s : State) : (s.goIdle).crc = { c := Config.freeByte (s.freeCount + 6), bit := Config.freeThreeBits s.freeCount, byte := Config.freeBit s.freeCount } := rfl
@[simp] theorem State.goIdle_resp (s : State) : (s.goIdle).resp = s.resp := rfl
@[simp] theorem State.goIdle_respValid (s : State) : (s.goIdle).respValid = s.respValid := rfl
@[simp] theorem State.goIdle_verdict (s : State) : (s.goIdle).verdict = s.verdict := rfl
@[simp] theorem State.goIdle_outstanding (s : State) : (s.goIdle).outstanding = s.outstanding := rfl
@[simp] theorem State.goIdle_inputs (s : State) : (s.goIdle).inputs = s.inputs := rfl
@[simp] theorem State.goIdle_busLog (s : State) : (s.goIdle).busLog = s.busLog := rfl
@[simp] theorem State.goIdle_responses (s : State) : (s.goIdle).responses = s.responses := rfl
@[simp] theorem State.goIdle_statusReads (s : State) : (s.goIdle).statusReads = s.statusReads := rfl
@[simp] theorem State.goIdle_freeCount (s : State) : (s.goIdle).freeCount = s.freeCount + 7 := rfl

@[simp] theorem State.issueCall_params (s : State) : (s.issueCall).params = s.params := rfl
@[simp] theorem State.issueCall_life (s : State) : (s.issueCall).life = s.life := rfl
@[simp] theorem State.issueCall_cal (s : State) : (s.issueCall).cal = s.cal := rfl
@[simp] theorem State.issueCall_phase (s : State) : (s.issueCall).phase = s.phase := rfl
@[simp] theorem State.issueCall_curOp (s : State) : (s.issueCall).curOp = s.curOp := rfl
@[simp] theorem State.issueCall_cmdSel (s : State) : (s.issueCall).cmdSel = s.cmdSel := rfl
@[simp] theorem State.issueCall_desc (s : State) : (s.issueCall).desc = s.desc := rfl
@[simp] theorem State.issueCall_rxbuf (s : State) : (s.issueCall).rxbuf = s.rxbuf := rfl
@[simp] theorem State.issueCall_widx (s : State) : (s.issueCall).widx = s.widx := rfl
@[simp] theorem State.issueCall_crc (s : State) : (s.issueCall).crc = s.crc := rfl
@[simp] theorem State.issueCall_resp (s : State) : (s.issueCall).resp = s.resp := rfl
@[simp] theorem State.issueCall_respValid (s : State) : (s.issueCall).respValid = s.respValid := rfl
@[simp] theorem State.issueCall_verdict (s : State) : (s.issueCall).verdict = s.verdict := rfl
@[simp] theorem State.issueCall_outstanding (s : State) : (s.issueCall).outstanding = s.phaseCall := rfl
@[simp] theorem State.issueCall_inputs (s : State) : (s.issueCall).inputs = s.inputs := rfl
@[simp] theorem State.issueCall_busLog (s : State) : (s.issueCall).busLog = s.busLog := rfl
@[simp] theorem State.issueCall_responses (s : State) : (s.issueCall).responses = s.responses := rfl
@[simp] theorem State.issueCall_statusReads (s : State) : (s.issueCall).statusReads = s.statusReads := rfl
@[simp] theorem State.issueCall_freeCount (s : State) : (s.issueCall).freeCount = s.freeCount := rfl

@[simp] theorem State.enterSettle_params (s : State) : (s.enterSettle).params = s.params := rfl
@[simp] theorem State.enterSettle_life (s : State) : (s.enterSettle).life = s.life := rfl
@[simp] theorem State.enterSettle_cal (s : State) : (s.enterSettle).cal = s.cal := rfl
@[simp] theorem State.enterSettle_phase (s : State) : (s.enterSettle).phase = .settle := rfl
@[simp] theorem State.enterSettle_curOp (s : State) : (s.enterSettle).curOp = s.curOp := rfl
@[simp] theorem State.enterSettle_cmdSel (s : State) : (s.enterSettle).cmdSel = s.cmdSel := rfl
@[simp] theorem State.enterSettle_desc (s : State) : (s.enterSettle).desc = s.desc := rfl
@[simp] theorem State.enterSettle_rxbuf (s : State) : (s.enterSettle).rxbuf = s.rxbuf := rfl
@[simp] theorem State.enterSettle_widx (s : State) : (s.enterSettle).widx = s.widx := rfl
@[simp] theorem State.enterSettle_crc (s : State) : (s.enterSettle).crc = s.crc := rfl
@[simp] theorem State.enterSettle_resp (s : State) : (s.enterSettle).resp = s.resp := rfl
@[simp] theorem State.enterSettle_respValid (s : State) : (s.enterSettle).respValid = s.respValid := rfl
@[simp] theorem State.enterSettle_verdict (s : State) : (s.enterSettle).verdict = s.verdict := rfl
@[simp] theorem State.enterSettle_outstanding (s : State) : (s.enterSettle).outstanding = s.outstanding := rfl
@[simp] theorem State.enterSettle_inputs (s : State) : (s.enterSettle).inputs = s.inputs := rfl
@[simp] theorem State.enterSettle_busLog (s : State) : (s.enterSettle).busLog = s.busLog := rfl
@[simp] theorem State.enterSettle_responses (s : State) : (s.enterSettle).responses = s.responses := rfl
@[simp] theorem State.enterSettle_statusReads (s : State) : (s.enterSettle).statusReads = s.statusReads := rfl
@[simp] theorem State.enterSettle_freeCount (s : State) : (s.enterSettle).freeCount = s.freeCount := rfl

@[simp] theorem State.enterRead_params (s : State) : (s.enterRead).params = s.params := rfl
@[simp] theorem State.enterRead_life (s : State) : (s.enterRead).life = s.life := rfl
@[simp] theorem State.enterRead_cal (s : State) : (s.enterRead).cal = s.cal := rfl
@[simp] theorem State.enterRead_phase (s : State) : (s.enterRead).phase = .read := rfl
@[simp] theorem State.enterRead_curOp (s : State) : (s.enterRead).curOp = s.curOp := rfl
@[simp] theorem State.enterRead_cmdSel (s : State) : (s.enterRead).cmdSel = s.cmdSel := rfl
@[simp] theorem State.enterRead_desc (s : State) : (s.enterRead).desc = s.desc := rfl
@[simp] theorem State.enterRead_rxbuf (s : State) : (s.enterRead).rxbuf = s.rxbuf := rfl
@[simp] theorem State.enterRead_widx (s : State) : (s.enterRead).widx = s.widx := rfl
@[simp] theorem State.enterRead_crc (s : State) : (s.enterRead).crc = s.crc := rfl
@[simp] theorem State.enterRead_resp (s : State) : (s.enterRead).resp = s.resp := rfl
@[simp] theorem State.enterRead_respValid (s : State) : (s.enterRead).respValid = s.respValid := rfl
@[simp] theorem State.enterRead_verdict (s : State) : (s.enterRead).verdict = s.verdict := rfl
@[simp] theorem State.enterRead_outstanding (s : State) : (s.enterRead).outstanding = s.outstanding := rfl
@[simp] theorem State.enterRead_inputs (s : State) : (s.enterRead).inputs = s.inputs := rfl
@[simp] theorem State.enterRead_busLog (s : State) : (s.enterRead).busLog = s.busLog := rfl
@[simp] theorem State.enterRead_responses (s : State) : (s.enterRead).responses = s.responses := rfl
@[simp] theorem State.enterRead_statusReads (s : State) : (s.enterRead).statusReads = s.statusReads := rfl
@[simp] theorem State.enterRead_freeCount (s : State) : (s.enterRead).freeCount = s.freeCount := rfl

@[simp] theorem State.enterVerify_params (s : State) (bytes : List Byte) : (s.enterVerify bytes).params = s.params := rfl
@[simp] theorem State.enterVerify_life (s : State) (bytes : List Byte) : (s.enterVerify bytes).life = s.life := rfl
@[simp] theorem State.enterVerify_cal (s : State) (bytes : List Byte) : (s.enterVerify bytes).cal = s.cal := rfl
@[simp] theorem State.enterVerify_phase (s : State) (bytes : List Byte) : (s.enterVerify bytes).phase = .verify := rfl
@[simp] theorem State.enterVerify_curOp (s : State) (bytes : List Byte) : (s.enterVerify bytes).curOp = s.curOp := rfl
@[simp] theorem State.enterVerify_cmdSel (s : State) (bytes : List Byte) : (s.enterVerify bytes).cmdSel = s.cmdSel := rfl
@[simp] theorem State.enterVerify_desc (s : State) (bytes : List Byte) : (s.enterVerify bytes).desc = s.desc := rfl
@[simp] theorem State.enterVerify_rxbuf (s : State) (bytes : List Byte) : (s.enterVerify bytes).rxbuf = bytes := rfl
@[simp] theorem State.enterVerify_widx (s : State) (bytes : List Byte) : (s.enterVerify bytes).widx = 0#2 := rfl
@[simp] theorem State.enterVerify_crc (s : State) (bytes : List Byte) : (s.enterVerify bytes).crc = s.crc := rfl
@[simp] theorem State.enterVerify_resp (s : State) (bytes : List Byte) : (s.enterVerify bytes).resp = s.resp := rfl
@[simp] theorem State.enterVerify_respValid (s : State) (bytes : List Byte) : (s.enterVerify bytes).respValid = s.respValid := rfl
@[simp] theorem State.enterVerify_verdict (s : State) (bytes : List Byte) : (s.enterVerify bytes).verdict = s.verdict := rfl
@[simp] theorem State.enterVerify_outstanding (s : State) (bytes : List Byte) : (s.enterVerify bytes).outstanding = s.outstanding := rfl
@[simp] theorem State.enterVerify_inputs (s : State) (bytes : List Byte) : (s.enterVerify bytes).inputs = s.inputs := rfl
@[simp] theorem State.enterVerify_busLog (s : State) (bytes : List Byte) : (s.enterVerify bytes).busLog = s.busLog := rfl
@[simp] theorem State.enterVerify_responses (s : State) (bytes : List Byte) : (s.enterVerify bytes).responses = s.responses := rfl
@[simp] theorem State.enterVerify_statusReads (s : State) (bytes : List Byte) : (s.enterVerify bytes).statusReads = s.statusReads := rfl
@[simp] theorem State.enterVerify_freeCount (s : State) (bytes : List Byte) : (s.enterVerify bytes).freeCount = s.freeCount := rfl

@[simp] theorem State.setCrc_params (s : State) (r : CrcRegs) : (s.setCrc r).params = s.params := rfl
@[simp] theorem State.setCrc_life (s : State) (r : CrcRegs) : (s.setCrc r).life = s.life := rfl
@[simp] theorem State.setCrc_cal (s : State) (r : CrcRegs) : (s.setCrc r).cal = s.cal := rfl
@[simp] theorem State.setCrc_phase (s : State) (r : CrcRegs) : (s.setCrc r).phase = s.phase := rfl
@[simp] theorem State.setCrc_curOp (s : State) (r : CrcRegs) : (s.setCrc r).curOp = s.curOp := rfl
@[simp] theorem State.setCrc_cmdSel (s : State) (r : CrcRegs) : (s.setCrc r).cmdSel = s.cmdSel := rfl
@[simp] theorem State.setCrc_desc (s : State) (r : CrcRegs) : (s.setCrc r).desc = s.desc := rfl
@[simp] theorem State.setCrc_rxbuf (s : State) (r : CrcRegs) : (s.setCrc r).rxbuf = s.rxbuf := rfl
@[simp] theorem State.setCrc_widx (s : State) (r : CrcRegs) : (s.setCrc r).widx = s.widx := rfl
@[simp] theorem State.setCrc_crc (s : State) (r : CrcRegs) : (s.setCrc r).crc = r := rfl
@[simp] theorem State.setCrc_resp (s : State) (r : CrcRegs) : (s.setCrc r).resp = s.resp := rfl
@[simp] theorem State.setCrc_respValid (s : State) (r : CrcRegs) : (s.setCrc r).respValid = s.respValid := rfl
@[simp] theorem State.setCrc_verdict (s : State) (r : CrcRegs) : (s.setCrc r).verdict = s.verdict := rfl
@[simp] theorem State.setCrc_outstanding (s : State) (r : CrcRegs) : (s.setCrc r).outstanding = s.outstanding := rfl
@[simp] theorem State.setCrc_inputs (s : State) (r : CrcRegs) : (s.setCrc r).inputs = s.inputs := rfl
@[simp] theorem State.setCrc_busLog (s : State) (r : CrcRegs) : (s.setCrc r).busLog = s.busLog := rfl
@[simp] theorem State.setCrc_responses (s : State) (r : CrcRegs) : (s.setCrc r).responses = s.responses := rfl
@[simp] theorem State.setCrc_statusReads (s : State) (r : CrcRegs) : (s.setCrc r).statusReads = s.statusReads := rfl
@[simp] theorem State.setCrc_freeCount (s : State) (r : CrcRegs) : (s.setCrc r).freeCount = s.freeCount := rfl

@[simp] theorem State.nextWord_params (s : State) : (s.nextWord).params = s.params := rfl
@[simp] theorem State.nextWord_life (s : State) : (s.nextWord).life = s.life := rfl
@[simp] theorem State.nextWord_cal (s : State) : (s.nextWord).cal = s.cal := rfl
@[simp] theorem State.nextWord_phase (s : State) : (s.nextWord).phase = s.phase := rfl
@[simp] theorem State.nextWord_curOp (s : State) : (s.nextWord).curOp = s.curOp := rfl
@[simp] theorem State.nextWord_cmdSel (s : State) : (s.nextWord).cmdSel = s.cmdSel := rfl
@[simp] theorem State.nextWord_desc (s : State) : (s.nextWord).desc = s.desc := rfl
@[simp] theorem State.nextWord_rxbuf (s : State) : (s.nextWord).rxbuf = s.rxbuf := rfl
@[simp] theorem State.nextWord_widx (s : State) : (s.nextWord).widx = s.widx + 1#2 := rfl
@[simp] theorem State.nextWord_crc (s : State) : (s.nextWord).crc = s.crc := rfl
@[simp] theorem State.nextWord_resp (s : State) : (s.nextWord).resp = s.resp := rfl
@[simp] theorem State.nextWord_respValid (s : State) : (s.nextWord).respValid = s.respValid := rfl
@[simp] theorem State.nextWord_verdict (s : State) : (s.nextWord).verdict = s.verdict := rfl
@[simp] theorem State.nextWord_outstanding (s : State) : (s.nextWord).outstanding = s.outstanding := rfl
@[simp] theorem State.nextWord_inputs (s : State) : (s.nextWord).inputs = s.inputs := rfl
@[simp] theorem State.nextWord_busLog (s : State) : (s.nextWord).busLog = s.busLog := rfl
@[simp] theorem State.nextWord_responses (s : State) : (s.nextWord).responses = s.responses := rfl
@[simp] theorem State.nextWord_statusReads (s : State) : (s.nextWord).statusReads = s.statusReads := rfl
@[simp] theorem State.nextWord_freeCount (s : State) : (s.nextWord).freeCount = s.freeCount := rfl

@[simp] theorem State.showStatus_params (s : State) (v : StatusValue) : (s.showStatus v).params = s.params := rfl
@[simp] theorem State.showStatus_life (s : State) (v : StatusValue) : (s.showStatus v).life = s.life := rfl
@[simp] theorem State.showStatus_cal (s : State) (v : StatusValue) : (s.showStatus v).cal = s.cal := rfl
@[simp] theorem State.showStatus_phase (s : State) (v : StatusValue) : (s.showStatus v).phase = s.phase := rfl
@[simp] theorem State.showStatus_curOp (s : State) (v : StatusValue) : (s.showStatus v).curOp = s.curOp := rfl
@[simp] theorem State.showStatus_cmdSel (s : State) (v : StatusValue) : (s.showStatus v).cmdSel = s.cmdSel := rfl
@[simp] theorem State.showStatus_desc (s : State) (v : StatusValue) : (s.showStatus v).desc = s.desc := rfl
@[simp] theorem State.showStatus_rxbuf (s : State) (v : StatusValue) : (s.showStatus v).rxbuf = s.rxbuf := rfl
@[simp] theorem State.showStatus_widx (s : State) (v : StatusValue) : (s.showStatus v).widx = s.widx := rfl
@[simp] theorem State.showStatus_crc (s : State) (v : StatusValue) : (s.showStatus v).crc = s.crc := rfl
@[simp] theorem State.showStatus_resp (s : State) (v : StatusValue) : (s.showStatus v).resp = s.resp := rfl
@[simp] theorem State.showStatus_respValid (s : State) (v : StatusValue) : (s.showStatus v).respValid = s.respValid := rfl
@[simp] theorem State.showStatus_verdict (s : State) (v : StatusValue) : (s.showStatus v).verdict = s.verdict := rfl
@[simp] theorem State.showStatus_outstanding (s : State) (v : StatusValue) : (s.showStatus v).outstanding = s.outstanding := rfl
@[simp] theorem State.showStatus_inputs (s : State) (v : StatusValue) : (s.showStatus v).inputs = s.inputs := rfl
@[simp] theorem State.showStatus_busLog (s : State) (v : StatusValue) : (s.showStatus v).busLog = s.busLog := rfl
@[simp] theorem State.showStatus_responses (s : State) (v : StatusValue) : (s.showStatus v).responses = s.responses := rfl
@[simp] theorem State.showStatus_statusReads (s : State) (v : StatusValue) : (s.showStatus v).statusReads = s.statusReads ++ [v] := rfl
@[simp] theorem State.showStatus_freeCount (s : State) (v : StatusValue) : (s.showStatus v).freeCount = s.freeCount := rfl

@[simp] theorem State.logAnswer_params (s : State) (call : BusCall) (a : Answer) (rest : List Input) : (s.logAnswer call a rest).params = s.params := rfl
@[simp] theorem State.logAnswer_life (s : State) (call : BusCall) (a : Answer) (rest : List Input) : (s.logAnswer call a rest).life = s.life := rfl
@[simp] theorem State.logAnswer_cal (s : State) (call : BusCall) (a : Answer) (rest : List Input) : (s.logAnswer call a rest).cal = s.cal := rfl
@[simp] theorem State.logAnswer_phase (s : State) (call : BusCall) (a : Answer) (rest : List Input) : (s.logAnswer call a rest).phase = s.phase := rfl
@[simp] theorem State.logAnswer_curOp (s : State) (call : BusCall) (a : Answer) (rest : List Input) : (s.logAnswer call a rest).curOp = s.curOp := rfl
@[simp] theorem State.logAnswer_cmdSel (s : State) (call : BusCall) (a : Answer) (rest : List Input) : (s.logAnswer call a rest).cmdSel = s.cmdSel := rfl
@[simp] theorem State.logAnswer_desc (s : State) (call : BusCall) (a : Answer) (rest : List Input) : (s.logAnswer call a rest).desc = s.desc := rfl
@[simp] theorem State.logAnswer_rxbuf (s : State) (call : BusCall) (a : Answer) (rest : List Input) : (s.logAnswer call a rest).rxbuf = s.rxbuf := rfl
@[simp] theorem State.logAnswer_widx (s : State) (call : BusCall) (a : Answer) (rest : List Input) : (s.logAnswer call a rest).widx = s.widx := rfl
@[simp] theorem State.logAnswer_crc (s : State) (call : BusCall) (a : Answer) (rest : List Input) : (s.logAnswer call a rest).crc = s.crc := rfl
@[simp] theorem State.logAnswer_resp (s : State) (call : BusCall) (a : Answer) (rest : List Input) : (s.logAnswer call a rest).resp = s.resp := rfl
@[simp] theorem State.logAnswer_respValid (s : State) (call : BusCall) (a : Answer) (rest : List Input) : (s.logAnswer call a rest).respValid = s.respValid := rfl
@[simp] theorem State.logAnswer_verdict (s : State) (call : BusCall) (a : Answer) (rest : List Input) : (s.logAnswer call a rest).verdict = s.verdict := rfl
@[simp] theorem State.logAnswer_outstanding (s : State) (call : BusCall) (a : Answer) (rest : List Input) : (s.logAnswer call a rest).outstanding = none := rfl
@[simp] theorem State.logAnswer_inputs (s : State) (call : BusCall) (a : Answer) (rest : List Input) : (s.logAnswer call a rest).inputs = rest := rfl
@[simp] theorem State.logAnswer_busLog (s : State) (call : BusCall) (a : Answer) (rest : List Input) : (s.logAnswer call a rest).busLog = s.busLog ++ [{ call := call, answer := some a }] := rfl
@[simp] theorem State.logAnswer_responses (s : State) (call : BusCall) (a : Answer) (rest : List Input) : (s.logAnswer call a rest).responses = s.responses := rfl
@[simp] theorem State.logAnswer_statusReads (s : State) (call : BusCall) (a : Answer) (rest : List Input) : (s.logAnswer call a rest).statusReads = s.statusReads := rfl
@[simp] theorem State.logAnswer_freeCount (s : State) (call : BusCall) (a : Answer) (rest : List Input) : (s.logAnswer call a rest).freeCount = s.freeCount := rfl

@[simp] theorem State.takeInput_params (s : State) (rest : List Input) : (s.takeInput rest).params = s.params := rfl
@[simp] theorem State.takeInput_life (s : State) (rest : List Input) : (s.takeInput rest).life = s.life := rfl
@[simp] theorem State.takeInput_cal (s : State) (rest : List Input) : (s.takeInput rest).cal = s.cal := rfl
@[simp] theorem State.takeInput_phase (s : State) (rest : List Input) : (s.takeInput rest).phase = s.phase := rfl
@[simp] theorem State.takeInput_curOp (s : State) (rest : List Input) : (s.takeInput rest).curOp = s.curOp := rfl
@[simp] theorem State.takeInput_cmdSel (s : State) (rest : List Input) : (s.takeInput rest).cmdSel = s.cmdSel := rfl
@[simp] theorem State.takeInput_desc (s : State) (rest : List Input) : (s.takeInput rest).desc = s.desc := rfl
@[simp] theorem State.takeInput_rxbuf (s : State) (rest : List Input) : (s.takeInput rest).rxbuf = s.rxbuf := rfl
@[simp] theorem State.takeInput_widx (s : State) (rest : List Input) : (s.takeInput rest).widx = s.widx := rfl
@[simp] theorem State.takeInput_crc (s : State) (rest : List Input) : (s.takeInput rest).crc = s.crc := rfl
@[simp] theorem State.takeInput_resp (s : State) (rest : List Input) : (s.takeInput rest).resp = s.resp := rfl
@[simp] theorem State.takeInput_respValid (s : State) (rest : List Input) : (s.takeInput rest).respValid = s.respValid := rfl
@[simp] theorem State.takeInput_verdict (s : State) (rest : List Input) : (s.takeInput rest).verdict = s.verdict := rfl
@[simp] theorem State.takeInput_outstanding (s : State) (rest : List Input) : (s.takeInput rest).outstanding = s.outstanding := rfl
@[simp] theorem State.takeInput_inputs (s : State) (rest : List Input) : (s.takeInput rest).inputs = rest := rfl
@[simp] theorem State.takeInput_busLog (s : State) (rest : List Input) : (s.takeInput rest).busLog = s.busLog := rfl
@[simp] theorem State.takeInput_responses (s : State) (rest : List Input) : (s.takeInput rest).responses = s.responses := rfl
@[simp] theorem State.takeInput_statusReads (s : State) (rest : List Input) : (s.takeInput rest).statusReads = s.statusReads := rfl
@[simp] theorem State.takeInput_freeCount (s : State) (rest : List Input) : (s.takeInput rest).freeCount = s.freeCount := rfl

@[simp] theorem State.applyReset_params (s : State) : s.applyReset.params = s.params := rfl
@[simp] theorem State.applyReset_life (s : State) : s.applyReset.life = State.reset.life := rfl
@[simp] theorem State.applyReset_cal (s : State) : s.applyReset.cal = State.reset.cal := rfl
@[simp] theorem State.applyReset_phase (s : State) : s.applyReset.phase = State.reset.phase := rfl
@[simp] theorem State.applyReset_curOp (s : State) : s.applyReset.curOp = State.reset.curOp := rfl
@[simp] theorem State.applyReset_cmdSel (s : State) : s.applyReset.cmdSel = State.reset.cmdSel := rfl
@[simp] theorem State.applyReset_desc (s : State) : s.applyReset.desc = State.reset.desc := rfl
@[simp] theorem State.applyReset_rxbuf (s : State) : s.applyReset.rxbuf = State.reset.rxbuf := rfl
@[simp] theorem State.applyReset_widx (s : State) : s.applyReset.widx = State.reset.widx := rfl
@[simp] theorem State.applyReset_crc (s : State) : s.applyReset.crc = State.reset.crc := rfl
@[simp] theorem State.applyReset_resp (s : State) : s.applyReset.resp = State.reset.resp := rfl
@[simp] theorem State.applyReset_respValid (s : State) : s.applyReset.respValid = State.reset.respValid := rfl
@[simp] theorem State.applyReset_verdict (s : State) : s.applyReset.verdict = State.reset.verdict := rfl
@[simp] theorem State.applyReset_outstanding (s : State) : s.applyReset.outstanding = State.reset.outstanding := rfl
@[simp] theorem State.applyReset_inputs (s : State) : s.applyReset.inputs = s.inputs := rfl
@[simp] theorem State.applyReset_busLog (s : State) : s.applyReset.busLog = s.busLog ++ s.abandonedCall := rfl
@[simp] theorem State.applyReset_responses (s : State) : s.applyReset.responses = s.responses := rfl
@[simp] theorem State.applyReset_statusReads (s : State) : s.applyReset.statusReads = s.statusReads := rfl
@[simp] theorem State.applyReset_freeCount (s : State) : s.applyReset.freeCount = s.freeCount := rfl

end Sys2Proof.Machine
end

