-- ==== Sys2Proof/Laws/Ops.lean ====
section
/-! SUPPORT. One lemma for each shared operation that says once everything it can do; proofs cite these and do not unfold
the operation. -/

namespace Sys2Proof.Machine

variable {s t : State}

@[simp] theorem succeed_eq (r : List Byte) : s.succeed r = s.conclude (.ok r) := rfl

@[simp] theorem raise_eq (kind : ErrKind) (info : Info) : s.raise kind info = s.conclude (.error kind info) := rfl

@[simp] theorem respBytes_take (r : List Byte) (n : Nat) (h : r.length ≤ 6) :
    (respBytes r n).toList.take r.length = r := by
  rcases r with _ | ⟨a, _ | ⟨b, _ | ⟨c, _ | ⟨d, _ | ⟨e, _ | ⟨f, _ | ⟨g, r⟩⟩⟩⟩⟩⟩⟩
  all_goals first
    | (simp only [List.length_cons] at h; omega)
    | simp [respBytes, respByte, Vector.toList]

/-- The response registers of a verdict show it. -/
theorem respOf_showsVerdict (v : Verdict) (n : Nat) (h : ∀ r, v = .ok r → r.length ≤ 6) :
    showsVerdict (respOf v n) v := by
  cases v with
  | ok r => exact ⟨rfl, rfl, respBytes_take r n (h r rfl), rfl⟩
  | error kind info => exact ⟨rfl, rfl, rfl⟩

theorem respOf_respOk (v : Verdict) (n : Nat) (h : ∀ r, v = .ok r → r.length ≤ 6) : respOk (respOf v n) := by
  cases v with
  | ok r => exact ⟨by simp [respOf, Verdict.code], h r rfl, fun hne => absurd rfl hne⟩
  | error kind info => exact ⟨by cases kind <;> simp [respOf, ErrKind.code], Nat.zero_le _, fun _ => rfl⟩

/-- What stands first in the schedule says whether the block is held up. -/
theorem heldUp_of_inputs {i : Input} {rest : List Input} (h : s.inputs = i :: rest) : s.heldUp = i.holdsUp := by
  simp [State.heldUp, h]

theorem heldUp_of_freeToMove (h : freeToMove s.inputs) : s.heldUp = false := h

/-- A reset with no call outstanding abandons none. -/
theorem abandonedCall_of_none (h : s.outstanding = none) : s.abandonedCall = [] := by
  simp [State.abandonedCall, h]

/-- A call outstanding at a reset is abandoned without an answer. -/
theorem abandonedCall_of_some {call : BusCall} (h : s.outstanding = some call) :
    s.abandonedCall = [{ call := call, answer := none }] := by
  simp [State.abandonedCall, h]

/-- The sequencer moves on when nothing holds it up and it can move. -/
theorem advance_eq_some : s.advance = some t ↔ s.heldUp = false ∧ s.nextMove = some t := by
  unfold State.advance
  split <;> simp_all

/-- A move of the sequencer issues the call of the phase, takes its answer, checks a word or delivers. -/
theorem nextMove_cases (h : s.nextMove = some t) :
    (s.outstanding = none ∧ s.phaseCall ≠ none ∧ t = s.issueCall) ∨
    (∃ call a rest, s.outstanding = some call ∧ s.inputs = .answer a :: rest ∧
      (s.logAnswer call a rest).onAnswer a = some t) ∨
    (s.phase = .verify ∧ t = s.verifyWord) ∨
    (∃ v, s.phase = .finish ∧ s.verdict = some v ∧ t = s.deliver v) := by
  unfold State.nextMove at h
  have bus : s.busMove = some t → s.phaseCall ≠ none →
      ((s.outstanding = none ∧ s.phaseCall ≠ none ∧ t = s.issueCall) ∨
        ∃ call a rest, s.outstanding = some call ∧ s.inputs = .answer a :: rest ∧
          (s.logAnswer call a rest).onAnswer a = some t) := by
    intro hb hp
    unfold State.busMove at hb
    split at hb
    · rename_i ho; exact .inl ⟨ho, hp, by simpa using hb.symm⟩
    · rename_i call a rest ho hi; exact .inr ⟨call, a, rest, ho, hi, hb⟩
    · cases hb
  split at h
  · cases h
  all_goals rename_i hp
  · rcases bus h (by simp [State.phaseCall, hp]) with h | h
    exacts [.inl h, .inr (.inl h)]
  · rcases bus h (by simp [State.phaseCall, hp]) with h | h
    exacts [.inl h, .inr (.inl h)]
  · rcases bus h (by simp [State.phaseCall, hp]) with h | h
    exacts [.inl h, .inr (.inl h)]
  · rcases bus h (by simp [State.phaseCall, hp]) with h | h
    exacts [.inl h, .inr (.inl h)]
  · exact .inr (.inr (.inl ⟨hp, by simpa using h.symm⟩))
  · rcases Option.map_eq_some_iff.1 h with ⟨v, hv, rfl⟩
    exact .inr (.inr (.inr ⟨v, hp, hv, rfl⟩))

/-- An answer is taken only in the phase that waits for its kind, with the move of that phase. -/
theorem onAnswer_cases {a : Answer} (h : s.onAnswer a = some t) :
    (∃ present, s.phase = .scan ∧ a = .scan present ∧ t = s.scanAnswered present) ∨
    (s.phase = .write ∧ a = .writeOk ∧ t = s.enterSettle) ∨
    (s.phase = .write ∧ a = .writeFail ∧ t = s.conclude (.error .transportError (.stage .write))) ∨
    (s.phase = .settle ∧ a = .slept ∧ t = s.sleepReturned) ∨
    (s.phase = .read ∧ a = .readFail ∧ t = s.conclude (.error .transportError (.stage .read))) ∨
    (∃ bytes, s.phase = .read ∧ a = .readOk bytes ∧ t = s.readAnswered bytes) := by
  unfold State.onAnswer at h
  split at h <;> simp_all

/-- When a command has returned, the operation ends or, after the init, the measure command is selected. -/
theorem commandReturned_cases (r : List Byte) (s : State) :
    (s.curOp = some .measureAirQuality ∧ s.cmdSel = some .initAirQuality ∧
      ((s.params.calSetPoint = .beforeInit ∧ s.commandReturned r = s.select .measureAirQuality) ∨
       (s.params.calSetPoint = .afterInitOk ∧
         s.commandReturned r = (s.setCal .calibrating).select .measureAirQuality))) ∨
    (¬ (s.curOp = some .measureAirQuality ∧ s.cmdSel = some .initAirQuality) ∧
      ((s.curOp = some .construct ∧ s.commandReturned r = (s.setLife .ready).conclude (.ok r)) ∨
       (s.curOp = some .selfTest ∧ selfTestValue r = s.params.selftestExpected ∧
         s.commandReturned r = s.conclude (.ok r)) ∨
       (s.curOp = some .selfTest ∧ selfTestValue r ≠ s.params.selftestExpected ∧
         s.commandReturned r = s.conclude (.error .unexpectedResponseValue (.value (selfTestValue r)))) ∨
       (s.curOp ≠ some .construct ∧ s.curOp ≠ some .selfTest ∧ s.commandReturned r = s.conclude (.ok r)))) := by
  unfold State.commandReturned
  split
  · simp_all
  · split <;> simp_all
  · split <;> simp_all
  · rename_i h1 h2 h3
    have a : s.curOp ≠ some .construct := fun h => h1 h
    have b : s.curOp ≠ some .selfTest := fun h => h2 h
    have c : ¬ (s.curOp = some .measureAirQuality ∧ s.cmdSel = some .initAirQuality) := fun h => h3 h.1 h.2
    exact .inr ⟨c, .inr (.inr (.inr ⟨a, b, rfl⟩))⟩

/-- A property every move keeps is kept by one move of the block, if it makes one. -/
theorem moveOnce_keeps {P : State → Prop} (hP : ∀ s t, P s → s.nextMove = some t → P t) (h : P s) : P s.moveOnce := by
  unfold State.moveOnce
  cases hm : s.nextMove with
  | none => exact h
  | some t => exact hP _ _ h hm

/-- A property every move keeps holds after any number of moves. -/
theorem runMoves_keeps {P : State → Prop} (hP : ∀ s t, P s → s.advance = some t → P t) :
    ∀ k s, P s → P (State.runMoves k s)
  | 0, _, h => h
  | k + 1, s, h => by
    unfold State.runMoves
    split
    · exact h
    · exact runMoves_keeps hP k _ (hP _ _ h ‹_›)

theorem runCommandMoves_keeps {P : State → Prop} (hP : ∀ s t, P s → s.advance = some t → P t) :
    ∀ k s, P s → P (State.runCommandMoves k s)
  | 0, _, h => h
  | k + 1, s, h => by
    unfold State.runCommandMoves
    split
    · exact h
    · split
      · exact hP _ _ h ‹_›
      · exact runCommandMoves_keeps hP k _ (hP _ _ h ‹_›)

/-- A request goes on exactly when `BUSY` is down and `LIFE` is what it needs (R213). -/
theorem acceptRefusal_eq_none_iff (need : Option Life) :
    acceptRefusal need s = none ↔ s.phase = .idle ∧ (need = none ∨ need = some s.life) := by
  unfold acceptRefusal State.busy
  cases hp : s.phase <;> cases need <;> simp_all
  rename_i l
  cases l <;> cases s.life <;> simp

/-- A host request that goes on ran its operation from acceptance. -/
theorem hostRequest_next {op : HostOp} {need : Option Life} {start : State → State}
    (h : hostRequest op need start s = .next t) :
    s.phase = .idle ∧ (need = none ∨ need = some s.life) ∧ t = (start (s.begin op)).runOperation := by
  unfold hostRequest at h
  split at h
  · cases h
  · rename_i ha
    cases h
    exact ⟨((acceptRefusal_eq_none_iff need).1 ha).1, ((acceptRefusal_eq_none_iff need).1 ha).2, rfl⟩

theorem readyCommand_eq_some {c : Command} :
    s.readyCommand = some c ↔ s.phase = .write ∧ s.outstanding = none ∧ s.cmdSel = some c := by
  unfold State.readyCommand
  split <;> simp_all

/-- A command that goes on was selected, and ran. -/
theorem execCommand_next {c : Command} (h : execCommand c s = .next t) :
    s.readyCommand = some c ∧ t = s.runCommand := by
  unfold execCommand at h
  split at h
  · cases h; exact ⟨‹_›, rfl⟩
  · cases h

theorem exec_ofCommand (c : Command) : exec (.ofCommand c) s = execCommand c s := by
  cases c <;> rfl

/-- What a request word makes of a state: the operation its instruction names, or a refusal. -/
theorem runRequest_next {w : ReqWord} (h : runRequest w s = .next t) :
    ∃ i, decodeHostReq w = .ok i ∧ exec i s = .next t := by
  unfold runRequest fetchRequest at h
  simp only [decode] at h
  cases hd : decodeHostReq w with
  | ok i => exact ⟨i, rfl, by simpa [hd] using h⟩
  | error e => simp [hd] at h

/-- Everything one step that goes on can be. -/
theorem step_cases (h : step s = .next t) :
    (∃ rest, s.inputs = .reset :: rest ∧ t = (s.takeInput rest).applyReset) ∨
    (∃ w rest i, s.inputs = .request w :: rest ∧ decodeHostReq w = .ok i ∧ exec i (s.takeInput rest) = .next t) ∨
    (∃ r rest v, s.inputs = .statusRead r :: rest ∧ s.readStatus r = some v ∧
      t = (s.takeInput rest).showStatus v) ∨
    (∃ rest, s.inputs = .move :: rest ∧ t = (s.takeInput rest).moveOnce) ∨
    (s.heldUp = false ∧ ((∃ c, s.readyCommand = some c ∧ t = s.runCommand) ∨
      (s.readyCommand = none ∧ ((∃ u, s.advance = some u ∧ t = s.runCommand) ∨
        (s.advance = none ∧ s.inputs = [] ∧ t = s) ∨
        (∃ i rest, s.advance = none ∧ s.inputs = i :: rest ∧ t = s.takeInput rest))))) := by
  unfold step at h
  split at h
  · rename_i rest hi
    cases h
    exact .inl ⟨rest, hi, rfl⟩
  · rename_i w rest hi
    obtain ⟨i, hd, he⟩ := runRequest_next h
    exact .inr (.inl ⟨w, rest, i, hi, hd, he⟩)
  · rename_i r rest hi
    unfold serveStatusRead at h
    split at h
    · rename_i v hv
      cases h
      refine .inr (.inr (.inl ⟨r, rest, v, hi, ?_, rfl⟩))
      cases r <;> exact hv
    · cases h
  · rename_i rest hi
    cases h
    exact .inr (.inr (.inr (.inl ⟨rest, hi, rfl⟩)))
  · rename_i h1 h2 h3 h4
    have hfree : s.heldUp = false := by
      unfold State.heldUp
      cases hi : s.inputs with
      | nil => rfl
      | cons a l => cases a <;> simp_all [Input.holdsUp]
    refine .inr (.inr (.inr (.inr ⟨hfree, ?_⟩)))
    unfold blockTurn at h
    split at h
    · rename_i c hc
      rw [exec_ofCommand] at h
      exact .inl ⟨c, hc, (execCommand_next h).2⟩
    · rename_i hc
      refine .inr ⟨hc, ?_⟩
      unfold sequencerTurn at h
      split at h
      · rename_i u hu
        cases h
        exact .inl ⟨u, hu, rfl⟩
      · rename_i hu hi
        unfold waitOn at h
        split at h
        · cases h
        · cases h
          exact .inr (.inl ⟨hu, hi, rfl⟩)
      · rename_i i rest hu hi
        cases h
        exact .inr (.inr ⟨i, rest, hu, hi, rfl⟩)

end Sys2Proof.Machine
end

