-- ==== Sys2Proof/Laws/PerInstr.lean ====
section
/-! SUPPORT. One lemma for each instruction of every family that LAWS.json names. -/

namespace Sys2Proof

theorem reqOp_reqWord (op : BitVec 4) (data : Word) : reqOp (reqWord op data) = op := by
  apply BitVec.eq_of_toNat_eq
  have h := data.isLt
  have h' := op.isLt
  simp only [reqOp, reqWord, BitVec.extractLsb'_toNat, BitVec.toNat_append, Nat.shiftRight_eq_div_pow]
  rw [← Nat.shiftLeft_add_eq_or_of_lt h, Nat.shiftLeft_eq]
  omega

theorem reqData_reqWord (op : BitVec 4) (data : Word) : reqData (reqWord op data) = data := by
  apply BitVec.eq_of_toNat_eq
  have h := data.isLt
  simp only [reqData, reqWord, BitVec.extractLsb'_toNat, BitVec.toNat_append, Nat.shiftRight_zero]
  rw [← Nat.shiftLeft_add_eq_or_of_lt h, Nat.shiftLeft_eq]
  omega

/-- The high and the low byte of a 16-bit value make it up again (R14, R53). -/
theorem be16_bytes (v : Word) : be16 (hiByte v) (loByte v) = v := by
  apply BitVec.eq_of_toNat_eq
  have h := v.isLt
  have hlo : (v.extractLsb' 0 8).toNat < 2 ^ 8 := (v.extractLsb' 0 8).isLt
  simp only [be16, hiByte, loByte, BitVec.toNat_append]
  rw [← Nat.shiftLeft_add_eq_or_of_lt hlo, Nat.shiftLeft_eq]
  simp only [BitVec.extractLsb'_toNat, Nat.shiftRight_eq_div_pow]
  omega

/-- A request word built from a defined `op` and allowed `data` is well-formed (R84). -/
theorem reqWord_wf (op : BitVec 4) (data : Word) (hop : op.toNat ≤ 5) (hd : op.toNat = 5 ∨ data = 0#16) :
    ReqWord.wf (reqWord op data) = true := by
  simp [ReqWord.wf, ReqWord.opDefined, ReqWord.dataAllowed, reqOp_reqWord, reqData_reqWord, hop, hd]

/-- The frame of a command of the table is well-formed (R71, R85). -/
theorem cmdBytes_wf (p : Params) (c : Command) : cmdFrameWf p (cmdBytes (p.opcode c)) = true := by
  have hc : c ∈ Command.all := by cases c <;> decide
  have hm : cmdBytes (p.opcode c) ∈ Command.all.map fun c => cmdBytes (p.opcode c) := List.mem_map.2 ⟨c, hc, rfl⟩
  simp only [cmdFrameWf, Bool.and_eq_true, decide_eq_true_eq, List.contains_iff_mem]
  exact ⟨rfl, hm⟩

namespace Laws.WellFormedWords

/-- Every instruction is spelled with well-formed words, whatever its operand (R80, R84, R85). -/
def Statement (i : Instr) : Prop := ∀ p : Params, i.wf p = true

theorem construct : Statement .construct := fun _ => reqWord_wf 0x0#4 0#16 (by decide) (.inr rfl)
theorem identify : Statement .identify := fun _ => reqWord_wf 0x1#4 0#16 (by decide) (.inr rfl)
theorem selfTest : Statement .selfTest := fun _ => reqWord_wf 0x2#4 0#16 (by decide) (.inr rfl)
theorem measureAirQuality : Statement .measureAirQuality := fun _ => reqWord_wf 0x3#4 0#16 (by decide) (.inr rfl)
theorem measureRawSignals : Statement .measureRawSignals := fun _ => reqWord_wf 0x4#4 0#16 (by decide) (.inr rfl)
theorem checksum (data : Word) : Statement (.checksum data) := fun _ => reqWord_wf 0x5#4 data (by decide) (.inl rfl)
theorem cmdGetSerialId : Statement .cmdGetSerialId := fun p => cmdBytes_wf p .getSerialId
theorem cmdMeasureTest : Statement .cmdMeasureTest := fun p => cmdBytes_wf p .measureTest
theorem cmdInitAirQuality : Statement .cmdInitAirQuality := fun p => cmdBytes_wf p .initAirQuality
theorem cmdMeasureAirQuality : Statement .cmdMeasureAirQuality := fun p => cmdBytes_wf p .measureAirQuality
theorem cmdMeasureRawSignals : Statement .cmdMeasureRawSignals := fun p => cmdBytes_wf p .measureRawSignals

end Laws.WellFormedWords

end Sys2Proof
end

