-- ==== Sys2Proof/Tests/Slice0.lean ====
section
/-! SUPPORT. Tests on fixed values, and a witness for the hypotheses of every statement. The expected values are those of
30_encoding.md, 10_state.md and 95_test_vectors.md, whose entry each test names. -/

namespace Sys2Proof.Machine

/-! ## Helpers -/

/-- A block at `IDLE` with the given `LIFE` and `CAL`, and the given schedule of the outside. -/
def idleWith (life : Life) (cal : Cal) (inputs : List Input) : State :=
  { State.reset with life := life, cal := cal, inputs := inputs }

/-- A block in which CTL has selected command `c` for operation `op`. -/
def selectedWith (op : HostOp) (c : Command) (life : Life) (cal : Cal) (inputs : List Input) : State :=
  State.select c { idleWith life cal inputs with curOp := some op }

/-- What the tests look at after an instruction. -/
structure Shown where
  err : BitVec 3
  len : Nat
  bytes : List Byte
  info : Info
  life : Life
  cal : Cal
  phase : Phase
deriving DecidableEq, Repr

/-- The response, its result bytes, `LIFE`, `CAL` and `PHASE` after an instruction that goes on. -/
def shown (o : Host.Outcome State Fault Refusal) : Option Shown :=
  match o with
  | .next t => some ⟨t.resp.err, t.resp.len, t.resp.data.toList.take t.resp.len, t.resp.info, t.life, t.cal, t.phase⟩
  | _ => none

/-- The bus events after an instruction that goes on. -/
def busOf (o : Host.Outcome State Fault Refusal) : List BusEvent :=
  match o with
  | .next t => t.busLog
  | _ => []

/-- The refusal of an outcome, if it is one. -/
def refusalOf (o : Host.Outcome State Fault Refusal) : Option Refusal :=
  match o with
  | .refused r => some r
  | _ => none

/-- The answers of a write, a sleep and a read that all succeed. -/
def goodAnswers (bytes : List Byte) : List Input := [.answer .writeOk, .answer .slept, .answer (.readOk bytes)]

/-- The read answer of vectors O1 and E11. -/
def serialBytes : List Byte := [0x00#8, 0x00#8, 0x81#8, 0x01#8, 0x00#8, 0x75#8, 0x12#8, 0x34#8, 0x37#8]

/-- The read answer of vectors O14 and E4. -/
def airBytes : List Byte := [0x01#8, 0x90#8, 0x4C#8, 0x00#8, 0x64#8, 0xFE#8]

/-! ## Ill-formed words are refused by the checks -/

theorem test_wf_reserved_op : ReqWord.opDefined 0x60000#20 = false := by decide
theorem test_wf_reserved_op_word : ReqWord.wf 0x60000#20 = false := by decide
theorem test_wf_data_on_identify : ReqWord.dataAllowed 0x10001#20 = false := by decide
theorem test_wf_data_on_identify_word : ReqWord.wf 0x10001#20 = false := by decide
theorem test_wf_equal_opcodes : ({ Params.default with opMeasureTest := 0x3682#16 } : Params).wf = false := by decide
theorem test_wf_frame_too_short : cmdFrameWf Params.default [0x20#8] = false := by decide
theorem test_wf_frame_too_long : cmdFrameWf Params.default [0x20#8, 0x03#8, 0x00#8] = false := by decide
theorem test_wf_unknown_opcode : cmdFrameWf Params.default [0x20#8, 0x09#8] = false := by decide
theorem test_wf_default_opcodes : Params.default.wf = true := by decide

/-! ## Decoding, words written out from R71, R80 and R82 -/

theorem test_decode_construct : decodeTableWord 24 0b0000_0000000000000000 = some .construct := by decide
theorem test_decode_identify : decodeTableWord 24 0b0001_0000000000000000 = some .identify := by decide
theorem test_decode_self_test : decodeTableWord 24 0b0010_0000000000000000 = some .selfTest := by decide
theorem test_decode_measure_air_quality : decodeTableWord 24 0b0011_0000000000000000 = some .measureAirQuality := by decide
theorem test_decode_measure_raw_signals : decodeTableWord 24 0b0100_0000000000000000 = some .measureRawSignals := by decide
theorem test_decode_checksum : decodeTableWord 24 0b0101_1011111011101111 = some (.checksum 0xBEEF#16) := by decide
theorem test_decode_get_serial_id : decodeTableWord 16 0b00110110_10000010 = some .cmdGetSerialId := by decide
theorem test_decode_measure_test : decodeTableWord 16 0b00100000_00110010 = some .cmdMeasureTest := by decide
theorem test_decode_init : decodeTableWord 16 0b00100000_00000011 = some .cmdInitAirQuality := by decide
theorem test_decode_measure_air : decodeTableWord 16 0b00100000_00001000 = some .cmdMeasureAirQuality := by decide
theorem test_decode_measure_raw : decodeTableWord 16 0b00100000_01010000 = some .cmdMeasureRawSignals := by decide
theorem test_decode_too_wide : decodeTableWord 24 0x100000 = none := by decide
theorem test_reject_reserved : decode Params.default (.hostReq 0xF1234#20) = .error .reservedOp := rfl
theorem test_reject_data : decode Params.default (.hostReq 0x10001#20) = .error .nonZeroData := rfl
theorem test_reject_length : decode Params.default (.cmd [0x20#8, 0x03#8, 0x00#8]) = .error .frameLength := rfl
/-- A byte-swapped opcode is none of the five (R53, R85). -/
theorem test_reject_swapped : decode Params.default (.cmd [0x03#8, 0x20#8]) = .error .unknownOpcode := by rfl
/-- CMD(op) is the high byte first (95_test_vectors.md P1: `[0x36, 0x82]`). -/
theorem test_encode_bus_order : encode Params.default .cmdGetSerialId = .cmd [0x36#8, 0x82#8] := by decide +kernel

/-! ## CRCGEN (L1.1, L1.3, L2.1, R101) -/

theorem test_crc_beef : crc8 CrcParams.default [0xBE#8, 0xEF#8] = 0x92#8 := by decide +kernel
theorem test_crc_0190 : crc8 CrcParams.default [0x01#8, 0x90#8] = 0x4C#8 := by decide +kernel
theorem test_crc_check_string :
    crc8 CrcParams.default [0x31#8, 0x32#8, 0x33#8, 0x34#8, 0x35#8, 0x36#8, 0x37#8, 0x38#8, 0x39#8] = 0xF7#8 := by decide +kernel
/-- The first bit steps of L1.1: 41, 82, 35. -/
theorem test_crc_bit_steps : crcBitStep CrcParams.default 0x41#8 = 0x82#8 ∧ crcBitStep CrcParams.default 0x82#8 = 0x35#8 := by decide +kernel
theorem test_crcgen_beef : (crcgen CrcParams.default 0xBE#8 0xEF#8).value CrcParams.default = 0x92#8 := by decide +kernel
theorem test_crc_table_e3 : crcTableAt 0x41#8 = 0x0C#8 ∧ crcTableAt 0xE3#8 = 0x92#8 := by decide +kernel
/-- The undetected pattern 800023 of L2.1. -/
theorem test_undetected_pattern : wordValid 0x01904C#24 = true ∧ wordValid 0x81906F#24 = true := by decide +kernel

/-! ## Host operations (L2.3) -/

/-- O1. -/
theorem test_construct_ok :
    shown (exec .construct (idleWith .unbound .uninitialized (.answer (.scan [0x58#7]) :: goodAnswers serialBytes)))
      = some ⟨0#3, 6, [0x00#8, 0x00#8, 0x01#8, 0x00#8, 0x12#8, 0x34#8], .none, .ready, .uninitialized, .idle⟩ := by decide +kernel

/-- L1.7: no identification command after a scan that omits the device. -/
theorem test_construct_absent_bus :
    busOf (exec .construct (idleWith .unbound .uninitialized [.answer (.scan [0x3C#7])])) = [⟨.scan, some (.scan [0x3C#7])⟩] := by
  decide +kernel

/-- O8. -/
theorem test_identify_read_fails :
    shown (exec .identify (idleWith .ready .uninitialized [.answer .writeOk, .answer .slept, .answer .readFail]))
      = some ⟨5#3, 0, [], .stage .read, .ready, .uninitialized, .idle⟩ := by decide +kernel

/-- O7, its trace. -/
theorem test_identify_bus :
    busOf (exec .identify (idleWith .ready .calibrating (goodAnswers serialBytes)))
      = [⟨.write 0x58#7 [0x36#8, 0x82#8], some .writeOk⟩, ⟨.sleep 10, some .slept⟩, ⟨.read 0x58#7 9, some (.readOk serialBytes)⟩] := by
  decide +kernel

/-- O11: a verified word of the wrong value. -/
theorem test_self_test_wrong_value :
    shown (exec .selfTest (idleWith .ready .uninitialized (goodAnswers [0xD4#8, 0x01#8, 0xF7#8])))
      = some ⟨4#3, 0, [], .value 0xD401#16, .ready, .uninitialized, .idle⟩ := by decide +kernel

/-- O13. -/
theorem test_self_test_calibrating :
    shown (exec .selfTest (idleWith .ready .calibrating []))
      = some ⟨3#3, 0, [], .none, .ready, .calibrating, .idle⟩ := by decide +kernel

/-- O18 under `AFTER_INIT_OK`: the failed init write leaves `CAL` alone. -/
theorem test_measure_air_init_fails_after_ok :
    shown (exec .measureAirQuality
        { idleWith .ready .uninitialized [.answer .writeFail] with
          params := { Params.default with calSetPoint := .afterInitOk } })
      = some ⟨5#3, 0, [], .stage .write, .ready, .uninitialized, .idle⟩ := by decide +kernel

/-- O14, its trace. -/
theorem test_measure_air_first_bus :
    busOf (exec .measureAirQuality
        (idleWith .ready .uninitialized ([.answer .writeOk, .answer .slept] ++ goodAnswers airBytes)))
      = [⟨.write 0x58#7 [0x20#8, 0x03#8], some .writeOk⟩, ⟨.sleep 10, some .slept⟩,
         ⟨.write 0x58#7 [0x20#8, 0x08#8], some .writeOk⟩, ⟨.sleep 10, some .slept⟩, ⟨.read 0x58#7 6, some (.readOk airBytes)⟩] := by decide +kernel

/-- O22: word 1 is corrupt and word 0 is not returned. -/
theorem test_measure_raw_corrupt :
    shown (exec .measureRawSignals
        (idleWith .ready .calibrating (goodAnswers [0x3E#8, 0x80#8, 0x24#8, 0x4F#8, 0x20#8, 0x18#8])))
      = some ⟨2#3, 0, [], .word 1#2, .ready, .calibrating, .idle⟩ := by decide +kernel

/-- O21: `CAL` stays `Uninitialized`. -/
theorem test_measure_raw_ok :
    shown (exec .measureRawSignals
        (idleWith .ready .uninitialized (goodAnswers [0x3E#8, 0x80#8, 0x24#8, 0x4F#8, 0x20#8, 0x17#8])))
      = some ⟨0#3, 4, [0x3E#8, 0x80#8, 0x4F#8, 0x20#8], .none, .ready, .uninitialized, .idle⟩ := by decide +kernel

/-- O23: accepted while unbound. -/
theorem test_checksum_unbound :
    shown (exec (.checksum 0xBEEF#16) (idleWith .unbound .uninitialized []))
      = some ⟨0#3, 1, [0x92#8], .none, .unbound, .uninitialized, .idle⟩ := by decide +kernel

/-- `00D4` and `D400` differ: the high byte enters first (L2.1). -/
theorem test_checksum_byte_order :
    shown (exec (.checksum 0x00D4#16) (idleWith .ready .calibrating []))
      = some ⟨0#3, 1, [0x41#8], .none, .ready, .calibrating, .idle⟩ := by decide +kernel

/-! ## Sensor commands (L2.2) -/

/-- E10. -/
theorem test_get_serial_id_word2 :
    shown (exec .cmdGetSerialId (selectedWith .identify .getSerialId .ready .uninitialized
        (goodAnswers [0x00#8, 0x00#8, 0x81#8, 0x01#8, 0x00#8, 0x75#8, 0x12#8, 0x34#8, 0x38#8])))
      = some ⟨2#3, 0, [], .word 2#2, .ready, .uninitialized, .idle⟩ := by decide +kernel

/-- E3. -/
theorem test_measure_test_bus :
    busOf (exec .cmdMeasureTest (selectedWith .selfTest .measureTest .ready .uninitialized
        (goodAnswers [0xD4#8, 0x00#8, 0xC6#8])))
      = [⟨.write 0x58#7 [0x20#8, 0x32#8], some .writeOk⟩, ⟨.sleep 250, some .slept⟩,
         ⟨.read 0x58#7 3, some (.readOk [0xD4#8, 0x00#8, 0xC6#8])⟩] := by decide +kernel

/-- E1: no read. -/
theorem test_init_no_read :
    busOf (exec .cmdInitAirQuality (selectedWith .measureAirQuality .initAirQuality .ready .calibrating
        [.answer .writeOk, .answer .slept]))
      = [⟨.write 0x58#7 [0x20#8, 0x03#8], some .writeOk⟩, ⟨.sleep 10, some .slept⟩] := by decide +kernel

/-- E7: an answer that is too long. -/
theorem test_measure_air_too_long :
    shown (exec .cmdMeasureAirQuality (selectedWith .measureAirQuality .measureAirQuality .ready .calibrating
        (goodAnswers [0x01#8, 0x90#8, 0x4C#8, 0x00#8, 0x64#8, 0xFE#8, 0x00#8, 0x00#8, 0x81#8])))
      = some ⟨5#3, 0, [], .stage .readLength, .ready, .calibrating, .idle⟩ := by decide +kernel

/-- E8: both words are bad and the lowest is reported. -/
theorem test_measure_air_both_bad :
    shown (exec .cmdMeasureAirQuality (selectedWith .measureAirQuality .measureAirQuality .ready .calibrating
        (goodAnswers [0x01#8, 0x90#8, 0x4D#8, 0x00#8, 0x64#8, 0xFF#8])))
      = some ⟨2#3, 0, [], .word 0#2, .ready, .calibrating, .idle⟩ := by decide +kernel

/-- E2, on MEASURE_RAW_SIGNALS: no sleep after a failed write. -/
theorem test_measure_raw_write_fails :
    busOf (exec .cmdMeasureRawSignals (selectedWith .measureRawSignals .measureRawSignals .ready .uninitialized
        [.answer .writeFail]))
      = [⟨.write 0x58#7 [0x20#8, 0x50#8], some .writeFail⟩] := by decide +kernel

/-! ## Refusals and reset (L2.4, L2.5) -/

/-- F1, F3, F5, F6 and F7. -/
theorem test_refusals :
    refusalOf (step (idleWith .unbound .uninitialized [.request 0x10000#20])) = some .notConstructed ∧
    refusalOf (step (idleWith .ready .uninitialized [.request 0x00000#20])) = some .alreadyConstructed ∧
    refusalOf (step (idleWith .ready .calibrating [.request 0xF1234#20])) = some .reservedRequest ∧
    refusalOf (step (idleWith .ready .calibrating [.request 0x10001#20])) = some .nonZeroData ∧
    refusalOf (step { selectedWith .selfTest .measureTest .ready .uninitialized [.request 0x5BEEF#20] with
      phase := .settle }) = some .busy := by decide +kernel

/-- X1: a read of the response after reset is refused. -/
theorem test_reset_resp_no_value :
    step { idleWith .ready .calibrating [.reset] with respValid := true } = .next State.reset ∧
      State.reset.readStatus .respErr = none := ⟨rfl, rfl⟩

/-- The host's read of `BUSY` (R33). -/
theorem test_read_busy :
    step (idleWith .ready .uninitialized [.statusRead .busy])
      = .next { idleWith .ready .uninitialized [] with statusReads := [.busy false] } := rfl

/-- `BUSY` is up in `FINISH` of a CHECKSUM (R32, R33). -/
theorem test_read_busy_in_finish :
    (match exec (.checksum 0xBEEF#16) (idleWith .ready .uninitialized [.statusRead .busy]) with
      | .next t =>
        match step t with
        | .next u => u.statusReads
        | _ => []
      | _ => []) = [.busy true] := by decide +kernel

/-! ## Witnesses: for each statement with hypotheses, a state and operands that meet them all, for each clause -/

theorem idleWith_inv (l : Life) (c : Cal) (i : List Input) (h : c = .calibrating → l = .ready) : (idleWith l c i).Inv := by
  constructor <;> simp_all [idleWith, State.reset, Phase.inCommand, State.phaseCall, respOk, Resp.atReset]

/-- The block in the course of IDENTIFY. -/
theorem selectedWith_inv (c : Cal) (i : List Input) : (selectedWith .identify .getSerialId .ready c i).Inv := by
  constructor <;> simp_all [selectedWith, State.select, idleWith, State.reset, Phase.inCommand, State.phaseCall, respOk,
    Resp.atReset, runsCommand, needsLife, calDuring]

theorem witness_DecodingAnEncodedInstructionGivesItBack : Params.default.wf = true := by decide

theorem witness_ADecodedFrameIsItsEncoding :
    decode Params.default (.hostReq 0x5FFFF#20) = .ok (.checksum 0xFFFF#16) ∧
    decode Params.default (.cmd [0x20#8, 0x50#8]) = .ok .cmdMeasureRawSignals := ⟨rfl, rfl⟩

/-- Both clauses at both ends of their ranges: `op` 6, 15, 0 and 4. -/
theorem witness_ReservedRequestsAreRefused :
    (idleWith .ready .calibrating [.request 0x60000#20]).inputs = .request 0x60000#20 :: [] ∧
    6 ≤ ((0x60000#20).extractLsb' 16 4).toNat ∧ 6 ≤ ((0xFFFFF#20).extractLsb' 16 4).toNat ∧
    (((0x00001#20).extractLsb' 16 4).toNat ≤ 4 ∧ (0x00001#20).extractLsb' 0 16 ≠ 0#16) ∧
    (((0x4FFFF#20).extractLsb' 16 4).toNat ≤ 4 ∧ (0x4FFFF#20).extractLsb' 0 16 ≠ 0#16) := by decide +kernel

theorem witness_StepExecutesTheRequestOnTheHostPort :
    (idleWith .ready .calibrating [.request 0x10000#20, .quiet]).inputs = .request 0x10000#20 :: [.quiet] ∧
    decode Params.default (.hostReq 0x10000#20) = .ok .identify := ⟨rfl, rfl⟩

theorem witness_StepExecutesTheSelectedCommand :
    (selectedWith .identify .getSerialId .ready .calibrating [.answer .writeOk]).hasSelected .identify .getSerialId ∧
    (selectedWith .identify .getSerialId .ready .calibrating [.answer .writeOk]).heldUp = false :=
  ⟨⟨rfl, rfl, rfl, rfl, rfl⟩, rfl⟩

theorem witness_APlacedRequestIsExecutedNext :
    0x5FFFF < 2 ^ 20 ∧ decodeTableWord 24 0x5FFFF = some (.checksum 0xFFFF#16) := by decide

theorem witness_APlacedCommandIsExecutedNext :
    State.reset.params = Params.default ∧ decodeTableWord 16 0x2032 = some .cmdMeasureTest := by decide

theorem witness_RequestsAreAcceptedByTheTable :
    (idleWith .ready .calibrating [.request 0x20000#20]).inputs = .request 0x20000#20 :: [] ∧
    (idleWith .ready .calibrating [.request 0x20000#20]).phase = .idle ∧
    (idleWith .ready .calibrating [.request 0x20000#20]).life = .ready ∧
    (idleWith .ready .calibrating [.request 0x20000#20]).cal = .calibrating ∧ freeToMove [] := by
  simp [idleWith, freeToMove, State.reset]

theorem witness_UnselectedCommandsAreRefused :
    ¬ (State.reset.phase = .write ∧ State.reset.outstanding = none ∧ State.reset.cmdSel = some .getSerialId) := by decide

/-- Before construction; constructed, before and after calibration has started. -/
theorem witness_AcceptanceEntersTheFirstPhase :
    ((idleWith .unbound .uninitialized [.reset]).phase = .idle ∧
      (idleWith .unbound .uninitialized [.reset]).heldUp = true ∧
      (idleWith .unbound .uninitialized [.reset]).life = .unbound) ∧
    ((idleWith .ready .uninitialized [.reset]).phase = .idle ∧ (idleWith .ready .uninitialized [.reset]).heldUp = true ∧
      (idleWith .ready .uninitialized [.reset]).life = .ready ∧
      (idleWith .ready .uninitialized [.reset]).cal = .uninitialized) ∧
    ((idleWith .ready .calibrating [.reset]).phase = .idle ∧ (idleWith .ready .calibrating [.reset]).heldUp = true ∧
      (idleWith .ready .calibrating [.reset]).life = .ready ∧
      (idleWith .ready .calibrating [.reset]).cal = .calibrating) :=
  ⟨⟨rfl, rfl, rfl⟩, ⟨rfl, rfl, rfl, rfl⟩, ⟨rfl, rfl, rfl, rfl⟩⟩

/-- O3 for the first clause, O1 and O4 for the second. -/
theorem witness_ConstructScansThenIdentifies :
    (idleWith .unbound .uninitialized []).atRest ∧ (idleWith .unbound .uninitialized []).life = .unbound ∧ freeToMove [] ∧
    (Params.default.devAddr ∉ ([] : List BusAddr) ∧
      (idleWith .unbound .uninitialized [.answer (.scan [])]).inputs = .answer (.scan []) :: []) ∧
    (Params.default.devAddr ∈ [0x3C#7, 0x58#7, 0x77#7] ∧
      (idleWith .unbound .uninitialized (.answer (.scan [0x3C#7, 0x58#7, 0x77#7]) :: goodAnswers serialBytes)).inputs
        = .answer (.scan [0x3C#7, 0x58#7, 0x77#7]) :: (commandAnswers true (some serialBytes) ++ [])) ∧
    (idleWith .unbound .uninitialized [.answer (.scan [0x58#7]), .answer .writeFail]).inputs
        = .answer (.scan [0x58#7]) :: (commandAnswers false none ++ []) :=
  ⟨⟨rfl, rfl⟩, rfl, rfl, ⟨by decide, rfl⟩, ⟨by decide, rfl⟩, rfl⟩

theorem witness_IdentifyReturnsTheIdentifier :
    (idleWith .ready .calibrating (goodAnswers serialBytes)).atRest ∧
    (idleWith .ready .calibrating (goodAnswers serialBytes)).life = .ready ∧ freeToMove [] ∧
    (idleWith .ready .calibrating (goodAnswers serialBytes)).inputs = commandAnswers true (some serialBytes) ++ [] :=
  ⟨⟨rfl, rfl⟩, rfl, rfl, rfl⟩

theorem witness_SelfTestComparesTheVerifiedWord :
    (idleWith .ready .uninitialized (goodAnswers [0xD4#8, 0x00#8, 0xC6#8])).atRest ∧
    (idleWith .ready .uninitialized (goodAnswers [0xD4#8, 0x00#8, 0xC6#8])).life = .ready ∧
    (idleWith .ready .uninitialized (goodAnswers [0xD4#8, 0x00#8, 0xC6#8])).cal = .uninitialized ∧ freeToMove [] ∧
    (idleWith .ready .uninitialized (goodAnswers [0xD4#8, 0x00#8, 0xC6#8])).inputs
      = commandAnswers true (some [0xD4#8, 0x00#8, 0xC6#8]) ++ [] :=
  ⟨⟨rfl, rfl⟩, rfl, rfl, rfl, rfl⟩

theorem witness_SelfTestAfterCalibrationViolatesSequencing :
    (idleWith .ready .calibrating []).atRest ∧ (idleWith .ready .calibrating []).life = .ready ∧
    (idleWith .ready .calibrating []).cal = .calibrating ∧ freeToMove (idleWith .ready .calibrating []).inputs :=
  ⟨⟨rfl, rfl⟩, rfl, rfl, rfl⟩

/-- O18 under both set points, and O14. -/
theorem witness_FirstMeasurementInitialisesThenMeasures :
    (idleWith .ready .uninitialized [.answer .writeFail]).atRest ∧
    (idleWith .ready .uninitialized [.answer .writeFail]).life = .ready ∧
    (idleWith .ready .uninitialized [.answer .writeFail]).cal = .uninitialized ∧ freeToMove [] ∧
    (idleWith .ready .uninitialized [.answer .writeFail]).inputs = initAnswers false ++ [] ∧
    Params.default.calSetPoint = .beforeInit ∧
    { Params.default with calSetPoint := .afterInitOk }.calSetPoint = .afterInitOk ∧
    (idleWith .ready .uninitialized ([.answer .writeOk, .answer .slept] ++ goodAnswers airBytes)).inputs
      = initAnswers true ++ (commandAnswers true (some airBytes) ++ []) :=
  ⟨⟨rfl, rfl⟩, rfl, rfl, rfl, rfl, rfl, rfl, rfl⟩

theorem witness_LaterMeasurementOnlyMeasures :
    (idleWith .ready .calibrating (goodAnswers airBytes)).atRest ∧
    (idleWith .ready .calibrating (goodAnswers airBytes)).life = .ready ∧
    (idleWith .ready .calibrating (goodAnswers airBytes)).cal = .calibrating ∧ freeToMove [] ∧
    (idleWith .ready .calibrating (goodAnswers airBytes)).inputs = commandAnswers true (some airBytes) ++ [] :=
  ⟨⟨rfl, rfl⟩, rfl, rfl, rfl, rfl⟩

theorem witness_RawMeasurementReturnsTheBytes :
    (idleWith .ready .uninitialized (goodAnswers airBytes)).atRest ∧
    (idleWith .ready .uninitialized (goodAnswers airBytes)).life = .ready ∧ freeToMove [] ∧
    (idleWith .ready .uninitialized (goodAnswers airBytes)).inputs = commandAnswers true (some airBytes) ++ [] :=
  ⟨⟨rfl, rfl⟩, rfl, rfl, rfl⟩

theorem witness_ChecksumAnswersTheCrcOfItsOperand :
    (idleWith .unbound .uninitialized []).atRest ∧ freeToMove (idleWith .unbound .uninitialized []).inputs :=
  ⟨⟨rfl, rfl⟩, rfl⟩

/-- O16: the two words at their greatest value. -/
theorem witness_MeasurementIsDecodedWithoutClamping :
    (idleWith .ready .calibrating (goodAnswers [0xFF#8, 0xFF#8, 0xAC#8, 0xFF#8, 0xFF#8, 0xAC#8])).atRest ∧
    (idleWith .ready .calibrating (goodAnswers [0xFF#8, 0xFF#8, 0xAC#8, 0xFF#8, 0xFF#8, 0xAC#8])).life = .ready ∧
    (idleWith .ready .calibrating (goodAnswers [0xFF#8, 0xFF#8, 0xAC#8, 0xFF#8, 0xFF#8, 0xAC#8])).cal = .calibrating ∧
    freeToMove [] ∧
    (idleWith .ready .calibrating (goodAnswers [0xFF#8, 0xFF#8, 0xAC#8, 0xFF#8, 0xFF#8, 0xAC#8])).inputs
      = [.answer .writeOk, .answer .slept,
          .answer (.readOk [0xFF#8, 0xFF#8, crc8 CrcParams.default [0xFF#8, 0xFF#8], 0xFF#8, 0xFF#8, crc8 CrcParams.default [0xFF#8, 0xFF#8]])] ++ [] := by
  have h : crc8 CrcParams.default [0xFF#8, 0xFF#8] = 0xAC#8 := by decide +kernel
  refine ⟨⟨rfl, rfl⟩, rfl, rfl, rfl, ?_⟩
  rw [h]
  rfl

theorem witness_ReadingCommandsRunOneTransaction :
    freeToMove [] ∧ goodAnswers airBytes = commandAnswers true (some airBytes) ++ [] ∧
    (selectedWith .construct .getSerialId .unbound .uninitialized (goodAnswers airBytes)).hasSelected .construct .getSerialId ∧
    (selectedWith .identify .getSerialId .ready .calibrating (goodAnswers airBytes)).hasSelected .identify .getSerialId ∧
    (selectedWith .selfTest .measureTest .ready .uninitialized (goodAnswers airBytes)).hasSelected .selfTest .measureTest ∧
    (selectedWith .measureAirQuality .measureAirQuality .ready .calibrating (goodAnswers airBytes)).hasSelected
      .measureAirQuality .measureAirQuality ∧
    (selectedWith .measureRawSignals .measureRawSignals .ready .calibrating (goodAnswers airBytes)).hasSelected
      .measureRawSignals .measureRawSignals ∧
    (selectedWith .construct .getSerialId .unbound .uninitialized (goodAnswers airBytes)).inputs = goodAnswers airBytes :=
  ⟨rfl, rfl, ⟨rfl, rfl, rfl, rfl, rfl⟩, ⟨rfl, rfl, rfl, rfl, rfl⟩, ⟨rfl, rfl, rfl, rfl, rfl⟩, ⟨rfl, rfl, rfl, rfl, rfl⟩,
    ⟨rfl, rfl, rfl, rfl, rfl⟩, rfl⟩

theorem witness_InitCommandEndsWithoutARead :
    (selectedWith .measureAirQuality .initAirQuality .ready .calibrating [.answer .writeOk, .answer .slept]).hasSelected
      .measureAirQuality .initAirQuality ∧
    (selectedWith .measureAirQuality .initAirQuality .ready .calibrating [.answer .writeOk, .answer .slept]).inputs
      = initAnswers true ++ [] := ⟨⟨rfl, rfl, rfl, rfl, rfl⟩, rfl⟩

theorem witness_AFailedWriteEndsTheOperation :
    (selectedWith .measureAirQuality .initAirQuality .ready .calibrating [.answer .writeFail]).hasSelected
      .measureAirQuality .initAirQuality ∧ freeToMove [] ∧
    (selectedWith .measureAirQuality .initAirQuality .ready .calibrating [.answer .writeFail]).inputs
      = .answer .writeFail :: [] := ⟨⟨rfl, rfl, rfl, rfl, rfl⟩, rfl, rfl⟩

/-- E6 and E7: one word too short, one word too long. -/
theorem witness_AWrongLengthReadIsATransportError :
    (selectedWith .measureAirQuality .measureAirQuality .ready .calibrating
      (goodAnswers [0x01#8, 0x90#8, 0x4C#8])).hasSelected .measureAirQuality .measureAirQuality ∧
    2 = (selectedWith .measureAirQuality .measureAirQuality .ready .calibrating
      (goodAnswers [0x01#8, 0x90#8, 0x4C#8])).desc.nwords.toNat ∧ 2 ≠ 0 ∧ freeToMove [] ∧
    [0x01#8, 0x90#8, 0x4C#8].length ≠ 3 * 2 ∧ (airBytes ++ [0x00#8, 0x00#8, 0x81#8]).length ≠ 3 * 2 :=
  ⟨⟨rfl, rfl, rfl, rfl, rfl⟩, by decide, by decide, rfl, by decide, by decide⟩

/-- E8 for index 0 and E10 for index 2. -/
theorem witness_TheLowestCorruptWordIsReported :
    (selectedWith .identify .getSerialId .ready .uninitialized []).hasSelected .identify .getSerialId ∧
    3 = (selectedWith .identify .getSerialId .ready .uninitialized []).desc.nwords.toNat ∧ freeToMove [] ∧
    [0x00#8, 0x00#8, 0x81#8, 0x01#8, 0x00#8, 0x75#8, 0x12#8, 0x34#8, 0x38#8].length = 3 * 3 ∧
    crc8 CrcParams.default [0x12#8, 0x34#8] ≠ 0x38#8 ∧ crc8 CrcParams.default [0x00#8, 0x00#8] = 0x81#8 ∧ crc8 CrcParams.default [0x01#8, 0x00#8] = 0x75#8 ∧
    crc8 CrcParams.default [0x01#8, 0x90#8] ≠ 0x4D#8 :=
  ⟨⟨rfl, rfl, rfl, rfl, rfl⟩, by decide, rfl, by decide, by decide +kernel, by decide +kernel, by decide +kernel,
    by decide +kernel⟩

theorem witness_EveryMoveFollowsAnEdgeOfTheTable :
    (selectedWith .identify .getSerialId .ready .calibrating []).Inv ∧
    ∃ t, (selectedWith .identify .getSerialId .ready .calibrating []).nextMove = some t :=
  ⟨selectedWith_inv _ _, _, rfl⟩

/-- Before construction; constructed, before and after calibration has started, with the operation of each command. -/
theorem witness_ASilentTransportLeavesTheOperationWaiting :
    ((idleWith .unbound .uninitialized []).atRest ∧ (idleWith .unbound .uninitialized []).inputs = [] ∧
      (idleWith .unbound .uninitialized []).life = .unbound) ∧
    ((idleWith .ready .uninitialized []).atRest ∧ (idleWith .ready .uninitialized []).inputs = [] ∧
      (idleWith .ready .uninitialized []).life = .ready ∧ (idleWith .ready .uninitialized []).cal = .uninitialized) ∧
    ((idleWith .ready .calibrating []).atRest ∧ (idleWith .ready .calibrating []).inputs = [] ∧
      (idleWith .ready .calibrating []).life = .ready ∧ (idleWith .ready .calibrating []).cal = .calibrating) :=
  ⟨⟨⟨rfl, rfl⟩, rfl, rfl⟩, ⟨⟨rfl, rfl⟩, rfl, rfl, rfl⟩, ⟨⟨rfl, rfl⟩, rfl, rfl, rfl⟩⟩

/-- A block in IDENTIFY that waits in phase `p` for the answer to that phase's call. -/
def waitingIn (p : Phase) (inputs : List Input) : State :=
  State.issueCall { selectedWith .identify .getSerialId .ready .uninitialized inputs with phase := p }

/-- A block in the first MEASURE_AIR_QUALITY that waits for the sleep of the init command. -/
def initSleeping (inputs : List Input) : State :=
  State.issueCall { selectedWith .measureAirQuality .initAirQuality .ready .calibrating inputs with phase := .settle }

/-- Each call with each kind of answer it can have: a scan with and without the device, a write, a sleep with and
without a read to follow, a read that fails, one of the wrong length (E6), one with a corrupt word (E10), a good one. -/
theorem witness_AStepGoesOnWithTheAnswerOfTheOutstandingCall :
    ((waitingIn .scan [.answer (.scan [0x58#7])]).phaseCall = some .scan ∧
      (waitingIn .scan [.answer (.scan [0x58#7])]).outstanding = some .scan ∧
      (waitingIn .scan [.answer (.scan [0x58#7])]).inputs = .answer (.scan [0x58#7]) :: [] ∧
      answerFits .scan (.scan [0x58#7]) = true ∧ Params.default.devAddr ∈ [0x58#7] ∧
      Params.default.devAddr ∉ [0x3C#7]) ∧
    ((waitingIn .write []).phaseCall = (waitingIn .write []).outstanding ∧ (waitingIn .write []).outstanding.isSome ∧
      answerFits (.write 0x58#7 [0x36#8, 0x82#8]) .writeOk = true ∧
      answerFits (.write 0x58#7 [0x36#8, 0x82#8]) .writeFail = true) ∧
    ((waitingIn .settle []).phaseCall = some (.sleep 10) ∧ (waitingIn .settle []).outstanding = some (.sleep 10) ∧
      (waitingIn .settle []).desc.nwords ≠ 0#2 ∧ answerFits (.sleep 10) .slept = true) ∧
    ((initSleeping []).phaseCall = some (.sleep 10) ∧ (initSleeping []).outstanding = some (.sleep 10) ∧
      (initSleeping []).desc.nwords = 0#2 ∧ (initSleeping []).curOp = some .measureAirQuality ∧
      (initSleeping []).cmdSel = some .initAirQuality) ∧
    ((waitingIn .read []).phaseCall = some (.read 0x58#7 9) ∧ (waitingIn .read []).outstanding = some (.read 0x58#7 9) ∧
      answerFits (.read 0x58#7 9) .readFail = true ∧ answerFits (.read 0x58#7 9) (.readOk airBytes) = true ∧
      airBytes.length ≠ 3 * (waitingIn .read []).desc.nwords.toNat ∧
      serialBytes.length = 3 * (waitingIn .read []).desc.nwords.toNat ∧
      firstBadWord CrcParams.default (serialBytes.take 8 ++ [0x38#8]) 3 = some 2 ∧
      firstBadWord CrcParams.default serialBytes 3 = none ∧ (waitingIn .read []).curOp = some .identify) ∧
    freeToMove [] := by
  unfold freeToMove
  decide +kernel

theorem witness_ACommandAnsweredLateEndsAsIfAnsweredAtOnce :
    (selectedWith .measureAirQuality .initAirQuality .ready .calibrating [.answer .writeOk]).hasSelected
      .measureAirQuality .initAirQuality ∧
    (selectedWith .measureAirQuality .initAirQuality .ready .calibrating [.answer .writeOk]).inputs
      = .answer .writeOk :: [] := ⟨⟨rfl, rfl, rfl, rfl, rfl⟩, rfl⟩

/-- At `IDLE` after the reset, and while the next request waits for the answer to a write of its own. -/
theorem witness_LateAnswersAreDiscarded :
    ((idleWith .unbound .uninitialized [.lateAnswer .writeOk]).inputs = .lateAnswer .writeOk :: [] ∧
      (idleWith .unbound .uninitialized [.lateAnswer .writeOk]).phase = .idle) ∧
    ((waitingIn .write [.lateAnswer .writeOk]).inputs = .lateAnswer .writeOk :: [] ∧
      ∃ call, (waitingIn .write [.lateAnswer .writeOk]).phaseCall = some call ∧
        (waitingIn .write [.lateAnswer .writeOk]).outstanding = some call) := ⟨⟨rfl, rfl⟩, rfl, _, rfl, rfl⟩

/-- E13: the write is issued and never answered. -/
theorem witness_AnUnansweredCallIsAStuckState :
    (selectedWith .identify .getSerialId .ready .calibrating []).issueCall.phaseCall
      = some (.write 0x58#7 [0x36#8, 0x82#8]) ∧
    (selectedWith .identify .getSerialId .ready .calibrating []).issueCall.outstanding
      = some (.write 0x58#7 [0x36#8, 0x82#8]) ∧
    (selectedWith .identify .getSerialId .ready .calibrating []).issueCall.inputs = [] ∧
    (selectedWith .identify .getSerialId .ready .calibrating []).issueCall.params.transportMayHang = true := by
  decide +kernel

theorem witness_EveryStepKeepsTheInvariant :
    (selectedWith .identify .getSerialId .ready .calibrating (goodAnswers serialBytes)).Inv ∧
    ∃ t, step (selectedWith .identify .getSerialId .ready .calibrating (goodAnswers serialBytes)) = .next t :=
  ⟨selectedWith_inv _ _, _, rfl⟩

theorem witness_NoStepChangesTheParameters :
    ∃ t, step (idleWith .ready .uninitialized [.request 0x30000#20]) = .next t := ⟨_, rfl⟩

theorem witness_OnlyResetReturnsCalToUninitialized :
    (∃ t, step (idleWith .ready .calibrating [.request 0x30000#20]) = .next t) ∧
    ¬ (idleWith .ready .calibrating [.request 0x30000#20]).resetFirst ∧
    (idleWith .ready .calibrating [.request 0x30000#20]).cal = .calibrating :=
  ⟨⟨_, rfl⟩, nofun, rfl⟩

/-- Both clauses: a constructed block, and O1, in which the step makes the block `Ready`. -/
theorem witness_OnlyConstructSetsLifeAndOnlyResetClearsIt :
    (∃ t, step (idleWith .ready .calibrating [.request 0x30000#20]) = .next t) ∧
    (idleWith .ready .calibrating [.request 0x30000#20]).life = .ready ∧
    (idleWith .unbound .uninitialized
      (.request 0x00000#20 :: .answer (.scan [0x58#7]) :: goodAnswers serialBytes)).Inv ∧
    ¬ (idleWith .unbound .uninitialized
      (.request 0x00000#20 :: .answer (.scan [0x58#7]) :: goodAnswers serialBytes)).resetFirst ∧
    ∃ t, step (idleWith .unbound .uninitialized
      (.request 0x00000#20 :: .answer (.scan [0x58#7]) :: goodAnswers serialBytes)) = .next t ∧ t.life = .ready :=
  ⟨⟨_, rfl⟩, rfl, idleWith_inv _ _ _ nofun, nofun, _, rfl, by decide +kernel⟩

theorem witness_EveryInstructionKeepsWhatItDoesNotName :
    (selectedWith .identify .getSerialId .ready .calibrating (goodAnswers serialBytes)).Inv ∧
    (∃ t, exec .cmdGetSerialId (selectedWith .identify .getSerialId .ready .calibrating (goodAnswers serialBytes))
      = .next t) ∧
    (selectedWith .identify .getSerialId .ready .calibrating (goodAnswers serialBytes)).curOp ≠ some .construct ∧
    (idleWith .ready .uninitialized []).Inv ∧ ∃ t, exec .measureAirQuality (idleWith .ready .uninitialized []) = .next t :=
  ⟨selectedWith_inv _ _, ⟨_, rfl⟩, by decide, idleWith_inv _ _ _ nofun, _, rfl⟩

theorem witness_ResponseRegistersChangeOnDeliveryOnly :
    (∃ t, step (idleWith .ready .calibrating [.request 0x50000#20]) = .next t) ∧
    ¬ (idleWith .ready .calibrating [.request 0x50000#20]).resetFirst := ⟨⟨_, rfl⟩, nofun⟩

theorem witness_TheBusHistoryIsOnlyExtended :
    ∃ t, step (idleWith .unbound .uninitialized [.request 0x00000#20, .answer (.scan [])]) = .next t := ⟨_, rfl⟩

theorem witness_WritesCarryAnOpcodeAndReadsAskForWholeWords :
    (selectedWith .identify .getSerialId .ready .calibrating [.answer .writeOk]).Inv ∧
    ∃ t, step (selectedWith .identify .getSerialId .ready .calibrating [.answer .writeOk]) = .next t :=
  ⟨selectedWith_inv _ _, _, rfl⟩

theorem witness_CalibratedMeasurementsNeverReissueTheInit :
    (idleWith .ready .calibrating (goodAnswers airBytes)).Inv ∧
    (idleWith .ready .calibrating (goodAnswers airBytes)).params.wf = true ∧
    (idleWith .ready .calibrating (goodAnswers airBytes)).cal = .calibrating ∧
    ∃ t, exec .measureAirQuality (idleWith .ready .calibrating (goodAnswers airBytes)) = .next t :=
  ⟨idleWith_inv _ _ _ fun _ => rfl, by decide, rfl, _, rfl⟩

theorem witness_OnlyAnExcludedSilenceFaults :
    step { (selectedWith .identify .getSerialId .ready .calibrating []).issueCall with
      params := { Params.default with transportMayHang := false } } = .fault .transportSilent := rfl

/-- X2: a reset in the middle of the self-test, and the return of its sleep after it, under both names; and a reset
at `IDLE`, where no call is outstanding. -/
theorem witness_ResetAbandonsTheRequestInFlight :
    ({ selectedWith .selfTest .measureTest .ready .uninitialized [.reset, .lateAnswer .slept] with
      phase := .settle, outstanding := some (.sleep 250) }.inputs = .reset :: [.lateAnswer .slept] ∧
    { selectedWith .selfTest .measureTest .ready .uninitialized [.reset, .lateAnswer .slept] with
      phase := .settle, outstanding := some (.sleep 250) }.outstanding = some (.sleep 250)) ∧
    ((idleWith .ready .calibrating [.reset, .answer .slept]).inputs = .reset :: [.answer .slept] ∧
    (idleWith .ready .calibrating [.reset, .answer .slept]).outstanding = none) := ⟨⟨rfl, rfl⟩, rfl, rfl⟩

/-- Each clause: at `IDLE` in both states of `LIFE`; where the read of IDENTIFY waits; in `VERIFY` at word 0 of 3 and at
word 1; before the issue of a call and before the delivery of a response; where a write waits for either answer; while
the block waits. -/
theorem witness_TheHostReachesTheBlockBetweenAnyTwoMoves :
    ((idleWith .unbound .uninitialized [.statusRead .busy]).phase = .idle ∧
      (idleWith .unbound .uninitialized [.statusRead .busy]).inputs = .statusRead .busy :: []) ∧
    ((idleWith .ready .calibrating [.statusRead .busy]).phase = .idle ∧
      (idleWith .ready .calibrating [.statusRead .busy]).life = .ready ∧
      (idleWith .ready .calibrating [.statusRead .busy]).cal = .calibrating ∧
      (idleWith .ready .calibrating [.statusRead .busy]).inputs = .statusRead .busy :: []) ∧
    ((waitingIn .read [.answer (.readOk serialBytes), .statusRead .busy]).phase = .read ∧
      (waitingIn .read [.answer (.readOk serialBytes), .statusRead .busy]).outstanding = some (.read 0x58#7 9) ∧
      serialBytes.length
        = 3 * (waitingIn .read [.answer (.readOk serialBytes), .statusRead .busy]).desc.nwords.toNat ∧
      (waitingIn .read [.answer (.readOk serialBytes), .statusRead .busy]).inputs
        = .answer (.readOk serialBytes) :: .statusRead .busy :: []) ∧
    ((State.enterVerify serialBytes (waitingIn .settle [.move, .statusRead .busy])).phase = .verify ∧
      (State.enterVerify serialBytes (waitingIn .settle [.move, .statusRead .busy])).widx.toNat + 1
        < (State.enterVerify serialBytes (waitingIn .settle [.move, .statusRead .busy])).desc.nwords.toNat ∧
      crc8 CrcParams.default [serialBytes.getD (3 * 0) 0#8, serialBytes.getD (3 * 0 + 1) 0#8]
        = serialBytes.getD (3 * 0 + 2) 0#8 ∧
      crc8 CrcParams.default [serialBytes.getD (3 * 1) 0#8, serialBytes.getD (3 * 1 + 1) 0#8]
        = serialBytes.getD (3 * 1 + 2) 0#8 ∧
      (State.enterVerify serialBytes (waitingIn .settle [.move, .statusRead .busy])).inputs
        = .move :: .statusRead .busy :: []) ∧
    ((selectedWith .identify .getSerialId .ready .uninitialized [.move, .statusRead .busy]).inputs
        = .move :: .statusRead .busy :: [] ∧
      (State.nextMove { selectedWith .identify .getSerialId .ready .uninitialized [.move, .statusRead .busy] with
        inputs := [.statusRead .busy] }).isSome) ∧
    ((State.raise .deviceNotFound .none (idleWith .unbound .uninitialized [.move, .statusRead .busy])).inputs
        = .move :: .statusRead .busy :: [] ∧
      (State.nextMove { State.raise .deviceNotFound .none
        (idleWith .unbound .uninitialized [.move, .statusRead .busy]) with inputs := [.statusRead .busy] }).isSome) ∧
    ((waitingIn .write [.answer .writeFail, .statusRead .busy]).phaseCall = some (.write 0x58#7 [0x36#8, 0x82#8]) ∧
      (waitingIn .write [.answer .writeFail, .statusRead .busy]).outstanding = some (.write 0x58#7 [0x36#8, 0x82#8]) ∧
      (waitingIn .write [.answer .writeFail, .statusRead .busy]).inputs = .answer .writeFail :: .statusRead .busy :: [] ∧
      (waitingIn .write [.answer .writeFail, .statusRead .busy]).nextMove.isSome ∧
      (waitingIn .write [.answer .writeOk, .statusRead .busy]).nextMove.isSome) ∧
    ((waitingIn .write [.request (reqWord 0x5#4 0xBEEF#16)]).phase ≠ .idle ∧
      (waitingIn .write [.request (reqWord 0x5#4 0xBEEF#16)]).inputs = .request (reqWord 0x5#4 0xBEEF#16) :: []) := by
  decide +kernel

/-- Each clause: a read of each output, with and without a response since reset. -/
theorem witness_StatusOutputsAreReadWithoutEffect :
    (∀ r, (idleWith .ready .calibrating [.statusRead r]).inputs = .statusRead r :: []) ∧
    { idleWith .ready .calibrating [.statusRead .respErr] with respValid := true }.respValid = true ∧
    (idleWith .ready .calibrating [.statusRead .respErr]).respValid = false := ⟨fun _ => rfl, rfl, rfl⟩

/-- With nothing left, with every kind of input left but a request, and with a read that is refused. -/
theorem witness_AnEndedRunStaysEnded :
    (idleWith .ready .calibrating []).runEnded ∧
    (idleWith .ready .calibrating
      [.quiet, .statusRead .busy, .lateAnswer .slept, .answer .writeOk, .move, .reset]).runEnded ∧
    (idleWith .ready .calibrating [.statusRead .respErr]).runEnded ∧
    (idleWith .ready .calibrating [.statusRead .respErr]).readStatus .respErr = none :=
  ⟨⟨rfl, rfl, rfl⟩, ⟨rfl, rfl, rfl⟩, ⟨rfl, rfl, rfl⟩, rfl⟩

/-- A request behind a host read is still pending (R258). -/
theorem test_run_not_ended :
    (idleWith .ready .calibrating [.statusRead .busy, .request 0x10000#20]).requestPending = true := rfl

theorem witness_CrcIsAffineAndBijectiveInEachByte :
    crc8 CrcParams.default [0xBE#8, 0xEF#8] = crc8 CrcParams.default [0xBE#8, 0xEF#8] := rfl

/-- L1.3's first word, with an error of weight 1, one of weight 2, and bursts at both ends of the word. -/
theorem witness_CrcDetectsOddDoubleAndBurstErrors :
    wordValid 0x01904C#24 = true ∧ patternWeight 0x800000#24 % 2 = 1 ∧ patternWeight 0x800001#24 = 2 ∧
    (∃ (i : Nat) (b : BitVec 24), b ≠ 0#24 ∧ b.toNat < 256 ∧ i ≤ 16 ∧ 0x0000FF#24 = b <<< i) ∧
    ∃ (i : Nat) (b : BitVec 24), b ≠ 0#24 ∧ b.toNat < 256 ∧ i ≤ 16 ∧ 0xFF0000#24 = b <<< i :=
  ⟨by decide +kernel, by decide +kernel, by decide +kernel, ⟨0, 0xFF#24, by decide, by decide, by decide, by decide⟩,
    ⟨16, 0xFF#24, by decide, by decide, by decide, by decide⟩⟩

end Sys2Proof.Machine
end

section
/-! What a step can do, said for any property of the state, and the parameters (10_state.md R39) as a first use of it. -/

namespace Sys2Proof.Machine

variable {s t : State}

/-- The host operation an instruction asks for and how it starts once accepted; none for a sensor command (R80, R82). -/
def operationStart : Instr → Option (HostOp × (State → State))
  | .construct => some (.construct, startConstruct)
  | .identify => some (.identify, startIdentify)
  | .selfTest => some (.selfTest, startSelfTest)
  | .measureAirQuality => some (.measureAirQuality, startMeasureAirQuality)
  | .measureRawSignals => some (.measureRawSignals, startMeasureRawSignals)
  | .checksum data => some (.checksum, startChecksum data)
  | .cmdGetSerialId | .cmdMeasureTest | .cmdInitAirQuality | .cmdMeasureAirQuality | .cmdMeasureRawSignals => none

/-- An instruction that asks for an operation executes as the request of it. -/
theorem exec_of_operationStart {i : Instr} {op : HostOp} {start : State → State}
    (h : operationStart i = some (op, start)) : exec i s = hostRequest op (needsLife op) start s := by
  cases i <;> cases h <;> rfl

/-- An instruction that asks for no operation is that of a sensor command. -/
theorem eq_ofCommand_of_operationStart {i : Instr} (h : operationStart i = none) : ∃ c, i = .ofCommand c := by
  cases i with
  | cmdGetSerialId => exact ⟨.getSerialId, rfl⟩
  | cmdMeasureTest => exact ⟨.measureTest, rfl⟩
  | cmdInitAirQuality => exact ⟨.initAirQuality, rfl⟩
  | cmdMeasureAirQuality => exact ⟨.measureAirQuality, rfl⟩
  | cmdMeasureRawSignals => exact ⟨.measureRawSignals, rfl⟩
  | _ => cases h

/-- Everything an instruction that goes on can be: an accepted operation that ran, or the selected command that ran. -/
theorem exec_cases {i : Instr} (h : exec i s = .next t) :
    (∃ op start, operationStart i = some (op, start) ∧ s.phase = .idle ∧
      (needsLife op = none ∨ needsLife op = some s.life) ∧ t = (start (s.begin op)).runOperation) ∨
    (∃ c, i = .ofCommand c ∧ s.readyCommand = some c ∧ t = s.runCommand) := by
  cases ho : operationStart i with
  | some p =>
    rw [exec_of_operationStart ho] at h
    exact .inl ⟨p.1, p.2, rfl, hostRequest_next h⟩
  | none =>
    obtain ⟨c, rfl⟩ := eq_ofCommand_of_operationStart ho
    rw [exec_ofCommand] at h
    exact .inr ⟨c, rfl, execCommand_next h⟩

section Keeps

variable {P : State → Prop} (hmove : ∀ s t, P s → s.nextMove = some t → P t)
include hmove

/-- A property every move keeps is kept by the moves of an operation. -/
theorem runOperation_keeps (h : P s) : P s.runOperation :=
  runMoves_keeps (fun s t hs ht => hmove s t hs (advance_eq_some.1 ht).2) _ s h

/-- A property every move keeps is kept by the moves of a command. -/
theorem runCommand_keeps (h : P s) : P s.runCommand :=
  runCommandMoves_keeps (fun s t hs ht => hmove s t hs (advance_eq_some.1 ht).2) _ s h

/-- A property is kept by an instruction when every move keeps it and the acceptance of the operation does. -/
theorem exec_keeps {i : Instr} (h : exec i s = .next t) (hs : P s)
    (hstart : ∀ op start, operationStart i = some (op, start) → s.phase = .idle →
      (needsLife op = none ∨ needsLife op = some s.life) → P (start (s.begin op))) : P t := by
  rcases exec_cases h with ⟨op, start, ho, hidle, hlife, rfl⟩ | ⟨c, -, -, rfl⟩
  · exact runOperation_keeps hmove (hstart op start ho hidle hlife)
  · exact runCommand_keeps hmove hs

end Keeps

/-! ## The parameters -/

@[simp] theorem scanAnswered_params (present : List BusAddr) : (s.scanAnswered present).params = s.params := by
  unfold State.scanAnswered
  split <;> rfl

@[simp] theorem commandReturned_params (r : List Byte) : (s.commandReturned r).params = s.params := by
  rcases commandReturned_cases r s with
    ⟨-, -, ⟨-, h⟩ | ⟨-, h⟩⟩ | ⟨-, ⟨-, h⟩ | ⟨-, -, h⟩ | ⟨-, -, h⟩ | ⟨-, -, h⟩⟩ <;> rw [h] <;> rfl

@[simp] theorem sleepReturned_params : s.sleepReturned.params = s.params := by
  unfold State.sleepReturned
  split
  · exact commandReturned_params []
  · rfl

@[simp] theorem readAnswered_params (bytes : List Byte) : (s.readAnswered bytes).params = s.params := by
  unfold State.readAnswered
  split <;> rfl

@[simp] theorem verifyWord_params : s.verifyWord.params = s.params := by
  unfold State.verifyWord
  dsimp only
  split
  · split
    · rfl
    · exact commandReturned_params _
  · rfl

theorem onAnswer_params {a : Answer} (h : s.onAnswer a = some t) : t.params = s.params := by
  rcases onAnswer_cases h with ⟨present, -, -, rfl⟩ | ⟨-, -, rfl⟩ | ⟨-, -, rfl⟩ | ⟨-, -, rfl⟩ | ⟨-, -, rfl⟩ |
    ⟨bytes, -, -, rfl⟩ <;> simp

/-- No move of the sequencer changes the parameters. -/
theorem nextMove_params (h : s.nextMove = some t) : t.params = s.params := by
  rcases nextMove_cases h with ⟨-, -, rfl⟩ | ⟨call, a, rest, -, -, ha⟩ | ⟨-, rfl⟩ | ⟨v, -, -, rfl⟩
  · rfl
  · exact (onAnswer_params ha).trans rfl
  · exact verifyWord_params
  · rfl

/-- So the parameters having a given value is a property every move keeps. -/
theorem params_eq_keeps (p : Params) (s t : State) (hs : s.params = p) (h : s.nextMove = some t) : t.params = p :=
  (nextMove_params h).trans hs

@[simp] theorem moveOnce_params : s.moveOnce.params = s.params := moveOnce_keeps (params_eq_keeps s.params) rfl

@[simp] theorem runCommand_params : s.runCommand.params = s.params := runCommand_keeps (params_eq_keeps s.params) rfl

@[simp] theorem startSelfTest_params : (startSelfTest s).params = s.params := by
  unfold startSelfTest
  split <;> rfl

@[simp] theorem startMeasureAirQuality_params : (startMeasureAirQuality s).params = s.params := by
  unfold startMeasureAirQuality
  split <;> rfl

/-- No operation changes the parameters where it starts. -/
theorem operationStart_params {i : Instr} {op : HostOp} {start : State → State}
    (h : operationStart i = some (op, start)) : (start s).params = s.params := by
  cases i with
  | selfTest => cases h; exact startSelfTest_params
  | measureAirQuality => cases h; exact startMeasureAirQuality_params
  | construct | identify | measureRawSignals | checksum => cases h; rfl
  | _ => cases h

/-- No instruction changes the parameters (R39). -/
theorem exec_params {i : Instr} (h : exec i s = .next t) : t.params = s.params :=
  exec_keeps (params_eq_keeps s.params) h rfl fun _ _ ho _ _ => operationStart_params ho

/-- Settles O37: by what a step can be, each kind of it keeps the parameters. -/
theorem noStepChangesTheParameters : Obligations.NoStepChangesTheParameters := by
  intro s t h
  rcases step_cases h with ⟨rest, -, rfl⟩ | ⟨w, rest, i, -, -, he⟩ | ⟨r, rest, v, -, -, rfl⟩ | ⟨rest, -, rfl⟩ |
    ⟨-, ⟨c, -, rfl⟩ | ⟨-, ⟨u, -, rfl⟩ | ⟨-, -, rfl⟩ | ⟨i, rest, -, -, rfl⟩⟩⟩
  case inr.inl => exact (exec_params he).trans rfl
  all_goals simp

/-! ## The status outputs after reset -/

/-- A response register is refused to the host exactly before the first response after reset (R33, R38). -/
@[simp] theorem readResp_eq_none_iff (v : StatusValue) : s.readResp v = none ↔ s.respValid = false := by
  simp [State.readResp]

/-- The reads the block refuses: the four response registers, before the first response after reset (R33, R38). -/
theorem readStatus_eq_none_iff {r : StatusReg} : s.readStatus r = none ↔
    s.respValid = false ∧ (r = .respErr ∨ r = .respLen ∨ r = .respData ∨ r = .respInfo) := by
  cases r <;> simp [State.readStatus]

/-- Settles O47: the registers by their reset values, the refused reads because no response is valid at reset. -/
theorem resetLeavesTheStatedValues : Obligations.ResetLeavesTheStatedValues := by
  have hinvalid : State.reset.respValid = false := rfl
  exact ⟨rfl, rfl, rfl, rfl, rfl, fun r => by rw [readStatus_eq_none_iff, and_iff_right hinvalid]⟩

end Sys2Proof.Machine
end

section
/-! Which transport calls a step makes (20_memory.md R51, R56): the calls it completes and the one it leaves outstanding
are calls of the rules. The invariant is `State.CallsSince`; it follows the loaded row of the command table to each call. -/

namespace Sys2Proof.Machine

variable {s t : State} {before : List BusEvent}

/-- A property is kept by a step when every move keeps it, and the acceptance of an operation, a host read, a reset and
the taking of an input do. -/
theorem step_keeps {P : State → Prop} (hmove : ∀ s t, P s → s.nextMove = some t → P t)
    (hstart : ∀ s i op start, P s → operationStart i = some (op, start) → s.phase = .idle →
      (needsLife op = none ∨ needsLife op = some s.life) → P (start (s.begin op)))
    (hread : ∀ s v, P s → P (s.showStatus v)) (hreset : ∀ s, P s → P s.applyReset)
    (htake : ∀ s rest, P s → P (s.takeInput rest)) (h : step s = .next t) (hs : P s) : P t := by
  rcases step_cases h with ⟨rest, -, rfl⟩ | ⟨w, rest, i, -, -, he⟩ | ⟨r, rest, v, -, -, rfl⟩ | ⟨rest, -, rfl⟩ |
    ⟨-, ⟨c, -, rfl⟩ | ⟨-, ⟨u, -, rfl⟩ | ⟨-, -, rfl⟩ | ⟨i, rest, -, -, rfl⟩⟩⟩
  · exact hreset _ (htake s rest hs)
  · exact exec_keeps hmove he (htake s rest hs) fun op start => hstart _ i op start (htake s rest hs)
  · exact hread _ v (htake s rest hs)
  · exact moveOnce_keeps hmove (htake s rest hs)
  · exact runCommand_keeps hmove hs
  · exact runCommand_keeps hmove hs
  · exact hs
  · exact htake s rest hs

/-- While TXN runs a command, `DESC` holds a row of the command table (R27, R82), in `READ` one with response words
(R136). -/
def State.HoldsRow (s : State) : Prop :=
  s.phase.inCommand = true → ∃ c, s.desc = descOf s.params c ∧ (s.phase = .read → commandWords c ≠ 0#2)

/-- Since the history stood at `before`, the block has made only calls of the rules, the outstanding one with them; and
`DESC` holds the row the next ones are made from. -/
structure State.CallsSince (before : List BusEvent) (s : State) : Prop where
  row : s.HoldsRow
  outstanding_ok : ∀ call, s.outstanding = some call → busCallOk s.params call
  log_ok : ∃ made, s.busLog = before ++ made ∧ ∀ e ∈ made, busCallOk s.params e.call

/-- A command with response words has 3, 6 or 9 bytes to read (R56, R82). -/
theorem commandWords_bytes {c : Command} (h : commandWords c ≠ 0#2) :
    Config.wordBytes * (commandWords c).toNat = 3 ∨ Config.wordBytes * (commandWords c).toNat = 6 ∨
      Config.wordBytes * (commandWords c).toNat = 9 := by
  cases c with
  | getSerialId => exact .inr (.inr rfl)
  | measureTest => exact .inl rfl
  | initAirQuality => exact absurd rfl h
  | measureAirQuality | measureRawSignals => exact .inr (.inl rfl)

/-- The settle delay of a command is one of the two parameters (R254). -/
theorem commandDelay_settle (p : Params) (c : Command) :
    commandDelay p c = p.settleDefaultMs ∨ commandDelay p c = p.settleSelftestMs := by
  cases c with
  | measureTest => exact .inr rfl
  | _ => exact .inl rfl

/-- With a row in `DESC`, the call a phase makes is a call of the rules (R132, R135, R137, R171). -/
theorem State.HoldsRow.phaseCall_ok (h : s.HoldsRow) {call : BusCall} (hcall : s.phaseCall = some call) :
    busCallOk s.params call := by
  unfold State.phaseCall at hcall
  split at hcall <;> cases hcall
  case h_1 => trivial
  all_goals
    rename_i hphase
    obtain ⟨c, hdesc, hwords⟩ := h (by rw [hphase]; rfl)
    rw [hdesc]
  · exact ⟨rfl, c, rfl⟩
  · exact commandDelay_settle s.params c
  · exact ⟨rfl, commandWords_bytes (hwords hphase)⟩

/-- In a state of a run, no call has been made since now but the outstanding one. -/
theorem State.Inv.callsSince (h : s.Inv) : s.CallsSince s.busLog := by
  have hrow : s.HoldsRow := by
    intro hin
    obtain ⟨-, c, -, -, -, hdesc, -, -⟩ := h.command_of_operation hin
    refine ⟨c, hdesc, fun hread => ?_⟩
    simpa [hdesc, descOf] using h.read_has_words hread
  exact ⟨hrow, fun call ho => hrow.phaseCall_ok (h.call_of_phase call ho), [], by simp, by simp⟩

namespace State.CallsSince

/-! The moves of the sequencer, one lemma for each operation it is made of. -/

theorem issueCall (h : s.CallsSince before) : s.issueCall.CallsSince before :=
  ⟨h.row, fun _ => h.row.phaseCall_ok, h.log_ok⟩

/-- The events `events` of calls of the rules enter the history. -/
theorem log_append (h : s.CallsSince before) {events : List BusEvent}
    (hev : ∀ e ∈ events, busCallOk s.params e.call) :
    ∃ made, s.busLog ++ events = before ++ made ∧ ∀ e ∈ made, busCallOk s.params e.call := by
  obtain ⟨made, hlog, hmade⟩ := h.log_ok
  exact ⟨made ++ events, by rw [hlog, List.append_assoc], List.forall_mem_append.2 ⟨hmade, hev⟩⟩

theorem logAnswer {call : BusCall} (h : s.CallsSince before) (ho : s.outstanding = some call) (a : Answer)
    (rest : List Input) : (s.logAnswer call a rest).CallsSince before :=
  ⟨h.row, nofun, h.log_append (List.forall_mem_singleton.2 (h.outstanding_ok call ho))⟩

theorem select (h : s.CallsSince before) (c : Command) : (s.select c).CallsSince before :=
  ⟨fun _ => ⟨c, rfl, nofun⟩, h.outstanding_ok, h.log_ok⟩

theorem conclude (h : s.CallsSince before) (v : Verdict) : (s.conclude v).CallsSince before :=
  ⟨nofun, h.outstanding_ok, h.log_ok⟩

theorem setLife (h : s.CallsSince before) (l : Life) : (s.setLife l).CallsSince before :=
  ⟨h.row, h.outstanding_ok, h.log_ok⟩

theorem setCal (h : s.CallsSince before) (c : Cal) : (s.setCal c).CallsSince before :=
  ⟨h.row, h.outstanding_ok, h.log_ok⟩

theorem setCrc (h : s.CallsSince before) (r : CrcRegs) : (s.setCrc r).CallsSince before :=
  ⟨h.row, h.outstanding_ok, h.log_ok⟩

theorem begin (h : s.CallsSince before) (op : HostOp) : (s.begin op).CallsSince before :=
  ⟨h.row, h.outstanding_ok, h.log_ok⟩

theorem nextWord (h : s.CallsSince before) : s.nextWord.CallsSince before :=
  ⟨h.row, h.outstanding_ok, h.log_ok⟩

theorem deliver (h : s.CallsSince before) (v : Verdict) : (s.deliver v).CallsSince before :=
  ⟨nofun, h.outstanding_ok, h.log_ok⟩

theorem enterSettle (h : s.CallsSince before) (hphase : s.phase = .write) : s.enterSettle.CallsSince before := by
  obtain ⟨c, hdesc, -⟩ := h.row (by rw [hphase]; rfl)
  exact ⟨fun _ => ⟨c, hdesc, nofun⟩, h.outstanding_ok, h.log_ok⟩

theorem scanAnswered (h : s.CallsSince before) (present : List BusAddr) :
    (s.scanAnswered present).CallsSince before := by
  unfold State.scanAnswered
  split
  · exact h.select _
  · exact h.conclude _

theorem commandReturned (h : s.CallsSince before) (r : List Byte) : (s.commandReturned r).CallsSince before := by
  rcases commandReturned_cases r s with
    ⟨-, -, ⟨-, he⟩ | ⟨-, he⟩⟩ | ⟨-, ⟨-, he⟩ | ⟨-, -, he⟩ | ⟨-, -, he⟩ | ⟨-, -, he⟩⟩ <;> rw [he]
  · exact h.select _
  · exact (h.setCal _).select _
  · exact (h.setLife _).conclude _
  all_goals exact h.conclude _

/-- The row read for is the row slept for, and it has response words (R136). -/
theorem sleepReturned (h : s.CallsSince before) (hphase : s.phase = .settle) : s.sleepReturned.CallsSince before := by
  unfold State.sleepReturned
  split
  · exact h.commandReturned _
  · rename_i hwords
    obtain ⟨c, hdesc, -⟩ := h.row (by rw [hphase]; rfl)
    rw [hdesc] at hwords
    exact ⟨fun _ => ⟨c, hdesc, fun _ => hwords⟩, h.outstanding_ok, h.log_ok⟩

theorem readAnswered (h : s.CallsSince before) (hphase : s.phase = .read) (bytes : List Byte) :
    (s.readAnswered bytes).CallsSince before := by
  unfold State.readAnswered
  split
  · obtain ⟨c, hdesc, -⟩ := h.row (by rw [hphase]; rfl)
    exact ⟨fun _ => ⟨c, hdesc, nofun⟩, h.outstanding_ok, h.log_ok⟩
  · exact h.conclude _

theorem verifyWord (h : s.CallsSince before) : s.verifyWord.CallsSince before := by
  unfold State.verifyWord
  dsimp only
  split
  · split
    · exact (h.setCrc _).nextWord
    · exact (h.setCrc _).commandReturned _
  · exact (h.setCrc _).conclude _

theorem onAnswer {a : Answer} (h : s.CallsSince before) (ha : s.onAnswer a = some t) : t.CallsSince before := by
  rcases onAnswer_cases ha with ⟨present, -, -, rfl⟩ | ⟨hp, -, rfl⟩ | ⟨-, -, rfl⟩ | ⟨hp, -, rfl⟩ | ⟨-, -, rfl⟩ |
    ⟨bytes, hp, -, rfl⟩
  · exact h.scanAnswered present
  · exact h.enterSettle hp
  · exact h.conclude _
  · exact h.sleepReturned hp
  · exact h.conclude _
  · exact h.readAnswered hp bytes

theorem nextMove (h : s.CallsSince before) (hm : s.nextMove = some t) : t.CallsSince before := by
  rcases nextMove_cases hm with ⟨-, -, rfl⟩ | ⟨call, a, rest, ho, -, ha⟩ | ⟨-, rfl⟩ | ⟨v, -, -, rfl⟩
  · exact h.issueCall
  · exact (h.logAnswer ho a rest).onAnswer ha
  · exact h.verifyWord
  · exact h.deliver v

/-! What else a step does. -/

/-- An operation starts with the scan, with a command or at its end. -/
theorem operationStart {i : Instr} {op : HostOp} {start : State → State} (h : s.CallsSince before)
    (hi : operationStart i = some (op, start)) : (start s).CallsSince before := by
  cases i with
  | construct => cases hi; exact ⟨nofun, h.outstanding_ok, h.log_ok⟩
  | identify => cases hi; exact h.select _
  | selfTest =>
    cases hi
    unfold startSelfTest
    split
    · exact h.conclude _
    · exact h.select _
  | measureAirQuality =>
    cases hi
    unfold startMeasureAirQuality
    split
    · exact (h.setCal _).select _
    · exact h.select _
    · exact h.select _
  | measureRawSignals => cases hi; exact h.select _
  | checksum data => cases hi; exact (h.setCrc _).conclude _
  | _ => cases hi

/-- A reset makes no call; the one it abandons was outstanding (R240). -/
theorem applyReset (h : s.CallsSince before) : s.applyReset.CallsSince before := by
  refine ⟨nofun, nofun, h.log_append ?_⟩
  cases ho : s.outstanding with
  | none => simp [abandonedCall_of_none ho]
  | some call => simpa [abandonedCall_of_some ho] using h.outstanding_ok call ho

theorem step (h : s.CallsSince before) (hstep : step s = .next t) : t.CallsSince before :=
  step_keeps (fun _ _ => nextMove) (fun _ _ op _ h hi _ _ => (h.begin op).operationStart hi)
    (fun _ _ h => ⟨h.row, h.outstanding_ok, h.log_ok⟩) (fun _ => applyReset)
    (fun _ _ h => ⟨h.row, h.outstanding_ok, h.log_ok⟩) hstep h

end State.CallsSince

/-- Settles O43: since the step began, the block has made only calls of the rules, under the parameters of `s`. -/
theorem writesCarryAnOpcodeAndReadsAskForWholeWords : Obligations.WritesCarryAnOpcodeAndReadsAskForWholeWords := by
  intro s t hinv hstep
  obtain ⟨-, hout, made, hlog, hmade⟩ := hinv.callsSince.step hstep
  rw [noStepChangesTheParameters s t hstep] at hout hmade
  refine ⟨made, hlog, fun call hcall => ?_⟩
  have hok : busCallOk s.params call := by
    rcases hcall with hdone | hleft
    · obtain ⟨e, he, rfl⟩ := List.mem_map.1 hdone
      exact hmade e he
    · exact hout call hleft
  constructor
  · rintro a bytes rfl
    exact hok
  · rintro a n rfl
    exact hok

end Sys2Proof.Machine
end

section
/-! What becomes of a request word on the host port that spells no instruction (30_encoding.md R84). -/

namespace Sys2Proof

variable {w : ReqWord}

/-- A reserved `op` decodes to no instruction, whatever the data field. -/
theorem decodeHostReq_of_reserved (h : 6 ≤ (reqOp w).toNat) : decodeHostReq w = .error .reservedOp := by
  unfold decodeHostReq
  split
  case h_7 => rfl
  all_goals omega

/-- An operation without an operand is decoded only from a zero data field. -/
theorem bareRequest_of_ne {data : Word} (h : data ≠ 0#16) (i : Instr) : bareRequest data i = .error .nonZeroData :=
  if_neg h

/-- The operations 0 to 4 have no operand. -/
theorem decodeHostReq_of_strayData (hop : (reqOp w).toNat ≤ 4) (hdata : reqData w ≠ 0#16) :
    decodeHostReq w = .error .nonZeroData := by
  unfold decodeHostReq
  generalize (reqOp w).toNat = op at hop
  interval_cases op
  all_goals exact bareRequest_of_ne hdata _

end Sys2Proof

namespace Sys2Proof.Machine

variable {s : State} {w : ReqWord} {rest : List Input}

/-- A word the decoder rejects is refused by the block for the decoder's reason, in any state. -/
theorem step_of_rejected_request {e : DecodeReject} (hin : s.inputs = .request w :: rest)
    (hd : decodeHostReq w = .error e) : step s = .refused (rejectRefusal e) := by
  have hstep : step s = runRequest w (s.takeInput rest) := by simp [step, hin]
  simp [hstep, runRequest, fetchRequest, decode, hd]

/-- Settles O4: the decoder rejects both kinds of word, and the step refuses what the decoder rejects. -/
theorem reservedRequestsAreRefused : Obligations.ReservedRequestsAreRefused := by
  intro s w rest hin
  constructor
  · intro hop
    exact step_of_rejected_request hin (decodeHostReq_of_reserved hop)
  · intro hop hdata
    exact step_of_rejected_request hin (decodeHostReq_of_strayData hop hdata)

end Sys2Proof.Machine
end

section
/-! One transaction of TXN (41_transaction.md R130 to R142), move by move: a transport call with its answer, the words of
a whole answer checked one after the other, the delivery of the verdict; then the three ways in which it fails. -/

namespace Sys2Proof.Machine

variable {s t : State} {op : HostOp} {c : Command} {call : BusCall} {a : Answer} {v : Verdict} {bytes : List Byte}
  {made : List BusEvent} {rest : List Input} {k : Nat}

/-! ## The moves of a command in a row -/

/-- A move that selects no command is followed by the remaining moves. -/
theorem runCommandMoves_of_nextMove (hfree : s.heldUp = false) (hmove : s.nextMove = some t)
    (hready : t.readyCommand = none) : State.runCommandMoves (k + 1) s = State.runCommandMoves k t := by
  have hadv : s.advance = some t := advance_eq_some.2 ⟨hfree, hmove⟩
  simp [State.runCommandMoves, hadv, hready]

/-- At `IDLE` the sequencer does not move (R25). -/
theorem runCommandMoves_of_idle (hidle : s.phase = .idle) : State.runCommandMoves k s = s := by
  have hadv : s.advance = none := by simp [State.advance, State.nextMove, hidle]
  cases k with
  | zero => rfl
  | succ k => simp [State.runCommandMoves, hadv]

/-- A command is selected only in `WRITE` (R131). -/
theorem readyCommand_eq_none_of_phase (h : s.phase ≠ .write) : s.readyCommand = none := by
  simp [State.readyCommand, h]

/-- A command whose write is issued is no longer to be started (R131). -/
theorem readyCommand_eq_none_of_outstanding (h : s.outstanding = some call) : s.readyCommand = none := by
  simp [State.readyCommand, h]

/-- A selected command is executed from its write on (R131). -/
theorem exec_of_hasSelected (h : s.hasSelected op c) : exec (.ofCommand c) s = .next s.runCommand := by
  obtain ⟨hphase, hout, -, hsel, -⟩ := h
  rw [exec_ofCommand, execCommand, if_pos (readyCommand_eq_some.2 ⟨hphase, hout, hsel⟩)]

/-! ## A transport call -/

/-- In a phase with a transport call, the moves are those of the call. -/
theorem nextMove_of_phaseCall (h : s.phaseCall = some call) : s.nextMove = s.busMove := by
  unfold State.phaseCall at h
  unfold State.nextMove
  split at h <;> simp_all

/-- A call that is answered takes two moves: it is issued, and its answer is taken (R16, R61). -/
theorem runCommandMoves_call (hcall : s.phaseCall = some call) (hout : s.outstanding = none)
    (hin : s.inputs = .answer a :: rest) (hans : (s.logAnswer call a rest).onAnswer a = some t)
    (hready : t.readyCommand = none) : State.runCommandMoves (k + 2) s = State.runCommandMoves k t := by
  have hfree : s.heldUp = false := heldUp_of_inputs hin
  have hissue : s.nextMove = some s.issueCall := by
    rw [nextMove_of_phaseCall hcall, State.busMove, hout]
  have hissued : s.issueCall.outstanding = some call := hcall
  have htake : s.issueCall.nextMove = some t := by
    rw [nextMove_of_phaseCall (s := s.issueCall) hcall, State.busMove, hissued,
      show s.issueCall.inputs = .answer a :: rest from hin]
    exact hans
  rw [runCommandMoves_of_nextMove hfree hissue (readyCommand_eq_none_of_outstanding hissued),
    runCommandMoves_of_nextMove (s := s.issueCall) hfree htake hready]

/-! What each phase does with an answer to its call. -/

theorem onAnswer_writeOk (h : s.phase = .write) : s.onAnswer .writeOk = some s.enterSettle := by
  simp [State.onAnswer, h]

theorem onAnswer_writeFail (h : s.phase = .write) :
    s.onAnswer .writeFail = some (s.conclude (.error .transportError (.stage .write))) := by
  simp [State.onAnswer, h]

theorem onAnswer_slept (h : s.phase = .settle) : s.onAnswer .slept = some s.sleepReturned := by
  simp [State.onAnswer, h]

theorem onAnswer_readOk (h : s.phase = .read) : s.onAnswer (.readOk bytes) = some (s.readAnswered bytes) := by
  simp [State.onAnswer, h]

/-- The sleep of a command with response words is followed by its read (R136). -/
theorem sleepReturned_of_words (h : s.desc.nwords ≠ 0#2) : s.sleepReturned = s.enterRead := if_neg h

/-- An answer of `3 * DESC.NWORDS` bytes is verified (R138). -/
theorem readAnswered_of_length (h : bytes.length = 3 * s.desc.nwords.toNat) :
    s.readAnswered bytes = s.enterVerify bytes := if_pos h

/-- An answer of another length ends the operation (R139). -/
theorem readAnswered_of_length_ne (h : bytes.length ≠ 3 * s.desc.nwords.toNat) :
    s.readAnswered bytes = s.conclude (.error .transportError (.stage .readLength)) := if_neg h

/-- A read answer leads to `VERIFY` or to `FINISH`, so no command is selected there (R25). -/
theorem readAnswered_readyCommand : (s.readAnswered bytes).readyCommand = none := by
  unfold State.readAnswered
  split <;> exact readyCommand_eq_none_of_phase nofun

/-! ## From the selected command to the read answer -/

/-- The transaction begun in `s` has come to `phase` by the bus events `made`, the schedule standing at `rest`; all
else is as in `s`. -/
def State.onBus (s : State) (phase : Phase) (made : List BusEvent) (rest : List Input) : State :=
  { s with phase := phase, outstanding := none, inputs := rest, busLog := s.busLog ++ made }

/-- An answer taken in the transaction adds its event. -/
theorem onBus_logAnswer {phase : Phase} {left : List Input} :
    (s.onBus phase made left).logAnswer call a rest
      = s.onBus phase (made ++ [{ call := call, answer := some a }]) rest := by
  simp [State.onBus, State.logAnswer]

/-- The write of the selected command, which leads to the state `t` its answer asks for (R132 to R134). -/
theorem runCommandMoves_write {ok : Bool} (hsel : s.hasSelected op c)
    (hin : s.inputs = .answer (writeAnswer ok) :: rest)
    (hans : (s.onBus .write [writeEvent s.params c ok] rest).onAnswer (writeAnswer ok) = some t)
    (hready : t.readyCommand = none) : State.runCommandMoves (k + 2) s = State.runCommandMoves k t := by
  obtain ⟨hphase, hout, -, -, hdesc⟩ := hsel
  have hcall : s.phaseCall = some (writeEvent s.params c ok).call := by
    simp [State.phaseCall, hphase, hdesc, descOf, writeEvent, cmdBytes, hiByte, loByte]
  refine runCommandMoves_call hcall hout hin ?_ hready
  rw [← hans, State.onBus, ← hphase]
  rfl

/-- The sleep of a command with response words, up to `READ` (R135, R136). -/
theorem runCommandMoves_sleep (hwords : s.desc.nwords ≠ 0#2) :
    State.runCommandMoves (k + 2) (s.onBus .settle made (.answer .slept :: rest))
      = State.runCommandMoves k (s.onBus .read (made ++ [sleepEvent s.desc.delay]) rest) := by
  refine runCommandMoves_call (call := .sleep s.desc.delay) rfl rfl rfl ?_ (readyCommand_eq_none_of_phase nofun)
  rw [onBus_logAnswer, onAnswer_slept rfl]
  exact congrArg some (sleepReturned_of_words hwords)

/-- The read, its answer given to the check of its length (R137). -/
theorem runCommandMoves_read :
    State.runCommandMoves (k + 2) (s.onBus .read made (.answer (.readOk bytes) :: rest))
      = State.runCommandMoves k
          ((s.onBus .read (made ++ [readEvent s.params (3 * s.desc.nwords.toNat) (some bytes)]) rest).readAnswered
            bytes) := by
  refine runCommandMoves_call (call := .read s.params.devAddr (3 * s.desc.nwords.toNat)) rfl rfl rfl ?_
    readAnswered_readyCommand
  rw [onBus_logAnswer, onAnswer_readOk rfl]
  rfl

/-- The bus events of the loaded command, its read answered with `bytes` (R62). -/
def State.readTrace (s : State) (c : Command) (bytes : List Byte) : List BusEvent :=
  commandTrace s.params c s.desc.nwords.toNat s.desc.delay true (some bytes)

/-- A selected command with response words, every call answered, comes to the check of its read answer. -/
theorem runCommandMoves_to_readAnswered (hsel : s.hasSelected op c) (hwords : s.desc.nwords ≠ 0#2)
    (hin : s.inputs = [.answer .writeOk, .answer .slept, .answer (.readOk bytes)] ++ rest) :
    State.runCommandMoves (k + 6) s
      = State.runCommandMoves k ((s.onBus .read (s.readTrace c bytes) rest).readAnswered bytes) := by
  calc State.runCommandMoves (k + 6) s
      = State.runCommandMoves (k + 4) (s.onBus .settle [writeEvent s.params c true]
          (.answer .slept :: .answer (.readOk bytes) :: rest)) :=
        runCommandMoves_write (ok := true) hsel hin (onAnswer_writeOk rfl) (readyCommand_eq_none_of_phase nofun)
    _ = State.runCommandMoves (k + 2) (s.onBus .read [writeEvent s.params c true, sleepEvent s.desc.delay]
          (.answer (.readOk bytes) :: rest)) := runCommandMoves_sleep hwords
    _ = _ := runCommandMoves_read

/-- A whole answer is verified from its first word on (R138). -/
theorem runCommandMoves_to_verify (hsel : s.hasSelected op c) (hwords : s.desc.nwords ≠ 0#2)
    (hin : s.inputs = [.answer .writeOk, .answer .slept, .answer (.readOk bytes)] ++ rest)
    (hlen : bytes.length = 3 * s.desc.nwords.toNat) :
    State.runCommandMoves (k + 6) s
      = State.runCommandMoves k ((s.onBus .read (s.readTrace c bytes) rest).enterVerify bytes) := by
  rw [runCommandMoves_to_readAnswered hsel hwords hin]
  exact congrArg _ (readAnswered_of_length hlen)

/-! ## The end of the operation -/

/-- In `FINISH` the verdict is delivered and the block is at `IDLE` (R145). -/
theorem runCommandMoves_conclude (hfree : freeToMove s.inputs) :
    State.runCommandMoves (k + 1) (s.conclude v) = (s.conclude v).deliver v := by
  rw [runCommandMoves_of_nextMove (s := s.conclude v) (t := (s.conclude v).deliver v) (heldUp_of_freeToMove hfree) rfl
    (readyCommand_eq_none_of_phase nofun), runCommandMoves_of_idle rfl]

/-- A delivery is the response to the request of `s` when nothing else of what the host sees has changed since. -/
theorem responded_deliver (hv : ∀ r, v = .ok r → r.length ≤ 6) (hresp : t.responses = s.responses)
    (hlog : t.busLog = s.busLog ++ made) (hout : t.outstanding = none) (hparams : t.params = s.params)
    (hreads : t.statusReads = s.statusReads) : Responded s (t.deliver v) v made t.inputs where
  idle := rfl
  verdict_shown := respOf_showsVerdict v _ hv
  valid := rfl
  delivered := congrArg (· ++ [(t.deliver v).resp]) hresp
  log := hlog
  inputs := rfl
  no_call := hout
  params := hparams
  reads := hreads

/-! ## CRCGEN over a word -/

theorem serialSteps_add (p : CrcParams) (h l : Byte) (m n : Nat) (r : CrcRegs) :
    CrcRegs.serialSteps p h l (m + n) r = CrcRegs.serialSteps p h l n (CrcRegs.serialSteps p h l m r) := by
  induction m generalizing r with
  | zero => rw [Nat.zero_add]; rfl
  | succ m ih => rw [Nat.succ_add]; exact ih _

/-- Eight steps from a byte's start take in the byte `CRC.BYTE` points at, and turn to the other one (R102, R103). -/
theorem serialSteps_byte (p : CrcParams) (h l c : Byte) (b : BitVec 1) :
    CrcRegs.serialSteps p h l 8 { c := c, bit := 0#3, byte := b }
      = { c := crcByteStep p c (if b = 0#1 then h else l), bit := 0#3, byte := b + 1#1 } := by
  simp [CrcRegs.serialSteps, CrcRegs.serialStep, crcByteStep, crcBitSteps]

/-- A computation takes in the first byte, then the second, and its counters have come round (R103, R111). -/
theorem crcgen_eq (p : CrcParams) (h l : Byte) :
    crcgen p h l = { c := crcByteStep p (crcByteStep p p.init h) l, bit := 0#3, byte := 0#1 } := by
  rw [crcgen, CrcRegs.start, show 8 * Config.crcInputBytes = 8 + 8 from rfl, serialSteps_add, serialSteps_byte,
    serialSteps_byte]
  simp

/-- The registers hold the checksum of the two bytes (R100). -/
theorem crcgen_value (p : CrcParams) (h l : Byte) : (crcgen p h l).value p = crc8 p [h, l] := by
  rw [crcgen_eq]
  rfl

/-! ## The words of the answer -/

/-- Word `i` of an answer verifies (R107). -/
def wordGood (p : CrcParams) (bytes : List Byte) (i : Nat) : Prop :=
  crc8 p [bytes.getD (3 * i) 0#8, bytes.getD (3 * i + 1) 0#8] = bytes.getD (3 * i + 2) 0#8

/-- CRCGEN's registers after it has checked the word `WIDX` points at (R105). -/
def State.wordCrc (s : State) : CrcRegs := crcgen s.params.crc s.currentWord.1 s.currentWord.2.1

/-- The check TXN makes of the current word is that the word verifies. -/
theorem wordCrc_value_eq_iff :
    s.wordCrc.value s.params.crc = s.currentWord.2.2 ↔ wordGood s.params.crc s.rxbuf s.widx.toNat := by
  rw [State.wordCrc, crcgen_value]
  rfl

/-- A good word that is not the last is followed by the next one (R140). -/
theorem verifyWord_of_good (hgood : wordGood s.params.crc s.rxbuf s.widx.toNat)
    (hmore : s.widx.toNat + 1 < s.desc.nwords.toNat) : s.verifyWord = (s.setCrc s.wordCrc).nextWord :=
  (if_pos (wordCrc_value_eq_iff.2 hgood)).trans (if_pos hmore)

/-- A bad word ends the operation, whatever follows it (R140). -/
theorem verifyWord_of_bad (hbad : ¬ wordGood s.params.crc s.rxbuf s.widx.toNat) :
    s.verifyWord = (s.setCrc s.wordCrc).conclude (.error .checksumMismatch (.word s.widx)) :=
  if_neg (mt wordCrc_value_eq_iff.1 hbad)

theorem nextMove_of_verify (h : s.phase = .verify) : s.nextMove = some s.verifyWord := by
  simp [State.nextMove, h]

/-- `s` with `WIDX` at word `i` and CRCGEN's registers at `r`. -/
def State.atWord (i : Nat) (r : CrcRegs) (s : State) : State := { s with widx := BitVec.ofNat 2 i, crc := r }

/-- The next word is the one after word `i`, whatever CRCGEN held at word `i`. -/
theorem atWord_nextWord {i : Nat} {r r' : CrcRegs} : ((s.atWord i r).setCrc r').nextWord = s.atWord (i + 1) r' := by
  simp [State.atWord, State.setCrc, State.nextWord, BitVec.ofNat_add]

/-- `WIDX` can hold the index of every word of the answer (R29). -/
theorem atWord_widx_toNat {i : Nat} {r : CrcRegs} (h : i < s.desc.nwords.toNat) : (s.atWord i r).widx.toNat = i :=
  (BitVec.toNat_ofNat i 2).trans (Nat.mod_eq_of_lt (h.trans s.desc.nwords.isLt))

/-- The words before word `i` being good, TXN comes to word `i` in `i` moves (R140). -/
theorem runCommandMoves_to_word {i : Nat} (hphase : s.phase = .verify) (hwidx : s.widx = 0#2)
    (hfree : freeToMove s.inputs) (hi : i < s.desc.nwords.toNat) (hgood : ∀ j < i, wordGood s.params.crc s.rxbuf j) :
    ∃ r, ∀ k, State.runCommandMoves (k + i) s = State.runCommandMoves k (s.atWord i r) := by
  induction i with
  | zero =>
    refine ⟨s.crc, fun k => ?_⟩
    rw [State.atWord, show BitVec.ofNat 2 0 = s.widx from hwidx.symm]
    rfl
  | succ i ih =>
    have hlt : i < s.desc.nwords.toNat := Nat.lt_of_succ_lt hi
    obtain ⟨r, hr⟩ := ih hlt fun j hj => hgood j (Nat.lt_succ_of_lt hj)
    have hw : (s.atWord i r).widx.toNat = i := atWord_widx_toNat hlt
    have hword : (s.atWord i r).verifyWord = s.atWord (i + 1) (s.atWord i r).wordCrc := by
      rw [verifyWord_of_good (by rw [hw]; exact hgood i (Nat.lt_succ_self i)) (by rw [hw]; exact hi), atWord_nextWord]
    refine ⟨(s.atWord i r).wordCrc, fun k => ?_⟩
    rw [Nat.add_succ, ← Nat.succ_add, hr, ← hword]
    exact runCommandMoves_of_nextMove (heldUp_of_freeToMove hfree) (nextMove_of_verify hphase)
      (by rw [hword]; exact readyCommand_eq_none_of_phase (by simp [State.atWord, hphase]))

/-- With word `i` the first bad one, the operation ends there and reports `i` (R140). -/
theorem runCommandMoves_of_badWord {i : Nat} (hphase : s.phase = .verify) (hwidx : s.widx = 0#2)
    (hfree : freeToMove s.inputs) (hi : i < s.desc.nwords.toNat) (hgood : ∀ j < i, wordGood s.params.crc s.rxbuf j)
    (hbad : ¬ wordGood s.params.crc s.rxbuf i) (hv : v = .error .checksumMismatch (.word (BitVec.ofNat 2 i))) :
    ∃ r, ∀ k, State.runCommandMoves (k + 2 + i) s = ((s.atWord i r).conclude v).deliver v := by
  obtain ⟨r, hr⟩ := runCommandMoves_to_word hphase hwidx hfree hi hgood
  have hword : (s.atWord i r).verifyWord = (s.atWord i (s.atWord i r).wordCrc).conclude v := by
    rw [verifyWord_of_bad (by rw [atWord_widx_toNat hi]; exact hbad), hv]
    rfl
  refine ⟨(s.atWord i r).wordCrc, fun k => ?_⟩
  rw [hr, runCommandMoves_of_nextMove (heldUp_of_freeToMove (s := s.atWord i r) hfree) (nextMove_of_verify hphase)
    (by rw [hword]; exact readyCommand_eq_none_of_phase nofun), hword]
  exact runCommandMoves_conclude hfree

/-! ## The three failures -/

/-- Settles O24: the write's answer leads to `FINISH`, where the verdict is delivered. -/
theorem aFailedWriteEndsTheOperation : Obligations.AFailedWriteEndsTheOperation := by
  intro s op c rest hsel hfree hin
  have hrun : s.runCommand = ((s.onBus .write [writeEvent s.params c false] rest).conclude
      (.error .transportError (.stage .write))).deliver (.error .transportError (.stage .write)) :=
    (runCommandMoves_write (ok := false) hsel hin (onAnswer_writeFail rfl) (readyCommand_eq_none_of_phase nofun)).trans
      (runCommandMoves_conclude hfree)
  rw [exec_of_hasSelected hsel, hrun]
  exact ⟨_, rfl, responded_deliver nofun rfl rfl rfl rfl rfl, rfl, rfl⟩

/-- Settles O25: the answer comes to the check of its length, which it fails before any word is looked at. -/
theorem aWrongLengthReadIsATransportError : Obligations.AWrongLengthReadIsATransportError := by
  rintro s op c n bytes rest hsel rfl hn hfree hin hlen
  have hwords : s.desc.nwords ≠ 0#2 := fun h => hn (congrArg BitVec.toNat h)
  have hrun : s.runCommand = ((s.onBus .read (s.readTrace c bytes) rest).conclude
      (.error .transportError (.stage .readLength))).deliver (.error .transportError (.stage .readLength)) := by
    refine (runCommandMoves_to_readAnswered hsel hwords hin).trans ?_
    rw [readAnswered_of_length_ne (s := s.onBus .read (s.readTrace c bytes) rest) hlen]
    exact runCommandMoves_conclude hfree
  rw [exec_of_hasSelected hsel, hrun]
  exact ⟨_, rfl, responded_deliver nofun rfl rfl rfl rfl rfl, rfl, rfl⟩

/-- Settles O26: the whole answer is verified from word 0 on, and word `i` is the first that fails. -/
theorem theLowestCorruptWordIsReported : Obligations.TheLowestCorruptWordIsReported := by
  rintro s op c n bytes i rest hsel rfl hfree hin hlen hi hbad hgood
  have hwords : s.desc.nwords ≠ 0#2 := fun h => by simp [h] at hi
  obtain ⟨r, hverify⟩ := runCommandMoves_of_badWord
    (s := (s.onBus .read (s.readTrace c bytes) rest).enterVerify bytes) rfl rfl hfree hi hgood hbad rfl
  obtain ⟨k, hk⟩ : ∃ k, Config.moveBudget = k + 2 + i + 6 := by
    have hlt := s.desc.nwords.isLt
    exact ⟨24 - i, by simp only [Config.moveBudget]; omega⟩
  rw [exec_of_hasSelected hsel, State.runCommand, hk, runCommandMoves_to_verify hsel hwords hin hlen, hverify]
  exact ⟨_, rfl, responded_deliver nofun rfl rfl rfl rfl rfl, rfl, rfl⟩

end Sys2Proof.Machine
end

section
/-! Whole operations from `IDLE` (42_operations.md R178 to R184): one transaction with every answer its calls can have,
then the operations that return the result of their command, and the first MEASURE_AIR_QUALITY with its init command. -/

namespace Sys2Proof.Machine

variable {s t u : State} {op : HostOp} {c : Command} {v : Verdict} {bytes : List Byte} {before made : List BusEvent}
  {rest : List Input} {ok : Bool} {r : Option (List Byte)} {k n : Nat}

/-! ## The moves of an operation and those of a command -/

/-- A move the sequencer makes is the first of its moves. -/
theorem runMoves_of_advance (h : s.advance = some t) : State.runMoves (k + 1) s = State.runMoves k t := by
  simp [State.runMoves, h]

/-- Moves in a row are the first of them and then the others. -/
theorem runMoves_add (m k : Nat) (s : State) : State.runMoves (m + k) s = State.runMoves k (State.runMoves m s) := by
  induction m generalizing s with
  | zero => rw [Nat.zero_add]; rfl
  | succ m ih =>
    cases hadv : s.advance with
    | none => cases k <;> simp [State.runMoves, hadv]
    | some t => rw [Nat.succ_add, runMoves_of_advance hadv, runMoves_of_advance hadv, ih]

/-- The moves of a command are those of its operation unless they come to the next command of it. -/
theorem runMoves_eq_runCommandMoves (h : (State.runCommandMoves k s).readyCommand = none) :
    State.runMoves k s = State.runCommandMoves k s := by
  induction k generalizing s with
  | zero => rfl
  | succ k ih =>
    cases hadv : s.advance with
    | none => simp [State.runMoves, State.runCommandMoves, hadv]
    | some t =>
      cases hready : t.readyCommand with
      | none =>
        simp only [State.runMoves, State.runCommandMoves, hadv, hready] at h ⊢
        exact ih h
      | some c => simp [State.runCommandMoves, hadv, hready] at h

/-! ## What an operation is over with -/

/-- The request is over as `Responded` says, and `LIFE` and `CAL` are as in `s`. -/
structure RespondedKeeping (s t : State) (v : Verdict) (trace : List BusEvent) (rest : List Input) : Prop
    extends Responded s t v trace rest where
  life : t.life = s.life
  cal : t.cal = s.cal

/-- A response to the request in `s`, where it is one from a later state `u` of the same operation. -/
theorem Responded.of_later (h : Responded u t v made rest) (hresp : u.responses = s.responses)
    (hlog : u.busLog = s.busLog ++ before) (hparams : u.params = s.params) (hreads : u.statusReads = s.statusReads) :
    Responded s t v (before ++ made) rest :=
  { h with
    delivered := h.delivered.trans (by rw [hresp])
    log := h.log.trans (by rw [hlog, List.append_assoc])
    params := h.params.trans hparams
    reads := h.reads.trans hreads }

/-- A response to the request accepted in `s`, where it is one from the start `u` of the operation. -/
theorem Responded.of_start (h : Responded u t v made rest) (hresp : u.responses = s.responses)
    (hlog : u.busLog = s.busLog) (hparams : u.params = s.params) (hreads : u.statusReads = s.statusReads) :
    Responded s t v made rest :=
  h.of_later (before := []) hresp (hlog.trans (List.append_nil _).symm) hparams hreads

/-- Where a command ends its operation, the operation makes the same moves. -/
theorem runMoves_of_responded (h : Responded s (State.runCommandMoves k u) v made rest) :
    State.runMoves k u = State.runCommandMoves k u :=
  runMoves_eq_runCommandMoves (readyCommand_eq_none_of_phase (by rw [h.idle]; nofun))

/-- An accepted operation runs from where it starts (R213). -/
theorem exec_of_accepted {i : Instr} {start : State → State} (ho : operationStart i = some (op, start))
    (hidle : s.phase = .idle) (hlife : needsLife op = none ∨ needsLife op = some s.life) :
    exec i s = .next (start (s.begin op)).runOperation := by
  rw [exec_of_operationStart ho, hostRequest, (acceptRefusal_eq_none_iff _).2 ⟨hidle, hlife⟩]

/-! ## The calls of a transaction -/

theorem curOp_of_hasSelected (hsel : s.hasSelected op c) : s.curOp = some op := by
  obtain ⟨-, -, hcur, -, -⟩ := hsel
  exact hcur

/-- A failed write ends the operation (R134). -/
theorem runCommandMoves_writeFailed (hsel : s.hasSelected op c) (hfree : freeToMove rest)
    (hin : s.inputs = .answer .writeFail :: rest) :
    RespondedKeeping s (State.runCommandMoves (k + 3) s) (.error .transportError (.stage .write))
      [writeEvent s.params c false] rest := by
  rw [runCommandMoves_write (ok := false) hsel hin (onAnswer_writeFail rfl) (readyCommand_eq_none_of_phase nofun),
    runCommandMoves_conclude hfree]
  exact ⟨responded_deliver nofun rfl rfl rfl rfl rfl, rfl, rfl⟩

theorem onAnswer_readFail (h : s.phase = .read) :
    s.onAnswer .readFail = some (s.conclude (.error .transportError (.stage .read))) := by
  simp [State.onAnswer, h]

/-- A selected command with response words, its write and its sleep answered, comes to its read (R133, R136). -/
theorem runCommandMoves_to_read (hsel : s.hasSelected op c) (hwords : s.desc.nwords ≠ 0#2)
    (hin : s.inputs = .answer .writeOk :: .answer .slept :: rest) :
    State.runCommandMoves (k + 4) s
      = State.runCommandMoves k (s.onBus .read [writeEvent s.params c true, sleepEvent s.desc.delay] rest) := by
  calc State.runCommandMoves (k + 4) s
      = State.runCommandMoves (k + 2) (s.onBus .settle [writeEvent s.params c true] (.answer .slept :: rest)) :=
        runCommandMoves_write (ok := true) hsel hin (onAnswer_writeOk rfl) (readyCommand_eq_none_of_phase nofun)
    _ = _ := runCommandMoves_sleep hwords

/-- The read, its answer a failure (R138). -/
theorem runCommandMoves_readFail :
    State.runCommandMoves (k + 2) (s.onBus .read made (.answer .readFail :: rest))
      = State.runCommandMoves k
          ((s.onBus .read (made ++ [readEvent s.params (3 * s.desc.nwords.toNat) none]) rest).conclude
            (.error .transportError (.stage .read))) := by
  refine runCommandMoves_call (call := .read s.params.devAddr (3 * s.desc.nwords.toNat)) rfl rfl rfl ?_
    (readyCommand_eq_none_of_phase nofun)
  rw [onBus_logAnswer, onAnswer_readFail rfl]
  rfl

/-- A failed read ends the operation (R138). -/
theorem runCommandMoves_readFailed (hsel : s.hasSelected op c) (hwords : s.desc.nwords ≠ 0#2) (hfree : freeToMove rest)
    (hin : s.inputs = [.answer .writeOk, .answer .slept, .answer .readFail] ++ rest) :
    RespondedKeeping s (State.runCommandMoves (k + 7) s) (.error .transportError (.stage .read))
      (commandTrace s.params c s.desc.nwords.toNat s.desc.delay true none) rest := by
  rw [runCommandMoves_to_read (rest := .answer .readFail :: rest) hsel hwords hin, runCommandMoves_readFail,
    runCommandMoves_conclude hfree]
  exact ⟨responded_deliver nofun rfl rfl rfl rfl rfl, rfl, rfl⟩

/-- A read answer of the wrong length ends the operation (R139). -/
theorem runCommandMoves_wrongLength (hsel : s.hasSelected op c) (hwords : s.desc.nwords ≠ 0#2) (hfree : freeToMove rest)
    (hin : s.inputs = [.answer .writeOk, .answer .slept, .answer (.readOk bytes)] ++ rest)
    (hlen : bytes.length ≠ 3 * s.desc.nwords.toNat) :
    RespondedKeeping s (State.runCommandMoves (k + 7) s) (.error .transportError (.stage .readLength))
      (s.readTrace c bytes) rest := by
  rw [runCommandMoves_to_readAnswered hsel hwords hin,
    readAnswered_of_length_ne (s := s.onBus .read (s.readTrace c bytes) rest) hlen, runCommandMoves_conclude hfree]
  exact ⟨responded_deliver nofun rfl rfl rfl rfl rfl, rfl, rfl⟩

/-! ## The words of a whole answer -/

/-- Every word is good: no word is the first bad one (R140). -/
theorem firstBadWord_eq_none_iff {p : CrcParams} : firstBadWord p bytes n = none ↔ ∀ i < n, wordGood p bytes i := by
  simp [firstBadWord, wordGood]

/-- The first bad word fails, and the words before it are good (R140). -/
theorem firstBadWord_eq_some {p : CrcParams} {i : Nat} (h : firstBadWord p bytes n = some i) :
    i < n ∧ ¬ wordGood p bytes i ∧ ∀ j < i, wordGood p bytes j := by
  rw [firstBadWord, List.find?_range_eq_some] at h
  obtain ⟨hbad, hi, hgood⟩ := h
  exact ⟨List.mem_range.1 hi, by simpa [wordGood] using hbad, fun j hj => by simpa [wordGood] using hgood j hj⟩

/-- The result holds two bytes for each word (R74). -/
@[simp] theorem resultOf_length : (resultOf bytes n).length = 2 * n := by
  simp [resultOf, wordsOf, List.length_flatMap, Function.comp_def, Nat.mul_comm]

/-- After the last good word the command has returned (R142). -/
theorem verifyWord_of_last (hgood : wordGood s.params.crc s.rxbuf s.widx.toNat)
    (hlast : s.widx.toNat + 1 = s.desc.nwords.toNat) :
    s.verifyWord = (s.setCrc s.wordCrc).commandReturned (resultOf s.rxbuf s.desc.nwords.toNat) :=
  (if_pos (wordCrc_value_eq_iff.2 hgood)).trans (if_neg hlast.not_lt)

/-- With every word good, the operation ends with the verdict `v` it makes of the result (R140, R142). -/
theorem runCommandMoves_of_goodWords {last : CrcRegs → State} (hphase : s.phase = .verify) (hwidx : s.widx = 0#2)
    (hfree : freeToMove s.inputs) (hn : s.desc.nwords.toNat = n + 1)
    (hgood : ∀ j < n + 1, wordGood s.params.crc s.rxbuf j)
    (hreturn : ∀ regs, (s.atWord n regs).commandReturned (resultOf s.rxbuf (n + 1)) = (last regs).conclude v)
    (hlastFree : ∀ regs, freeToMove (last regs).inputs) :
    ∃ regs, ∀ k, State.runCommandMoves (k + 2 + n) s = ((last regs).conclude v).deliver v := by
  have hlt : n < s.desc.nwords.toNat := by omega
  obtain ⟨regs, hr⟩ := runCommandMoves_to_word hphase hwidx hfree hlt fun j hj => hgood j (Nat.lt_succ_of_lt hj)
  have hw : (s.atWord n regs).widx.toNat = n := atWord_widx_toNat hlt
  have hword : (s.atWord n regs).verifyWord = (last (s.atWord n regs).wordCrc).conclude v := by
    rw [verifyWord_of_last (by rw [hw]; exact hgood n (Nat.lt_succ_self n)) (by rw [hw]; exact hn.symm),
      ← hreturn, ← hn]
    rfl
  refine ⟨(s.atWord n regs).wordCrc, fun k => ?_⟩
  rw [hr, runCommandMoves_of_nextMove (heldUp_of_freeToMove (s := s.atWord n regs) hfree) (nextMove_of_verify hphase)
    (by rw [hword]; exact readyCommand_eq_none_of_phase nofun), hword]
  exact runCommandMoves_conclude (hlastFree _)

/-- An operation but CONSTRUCT and SELF_TEST returns the result of its command, the init command aside (R173, R178,
R183). -/
theorem commandReturned_of_plain (hcur : s.curOp = some op) (hop : op ≠ .construct ∧ op ≠ .selfTest)
    (hcmd : s.cmdSel ≠ some .initAirQuality) (result : List Byte) :
    s.commandReturned result = s.conclude (.ok result) := by
  rcases commandReturned_cases result s with ⟨-, hinit, -⟩ | ⟨-, ⟨h, -⟩ | ⟨h, -⟩ | ⟨h, -⟩ | ⟨-, -, h⟩⟩
  · exact absurd hinit hcmd
  · exact absurd (Option.some.inj (hcur.symm.trans h)) hop.1
  · exact absurd (Option.some.inj (hcur.symm.trans h)) hop.2
  · exact absurd (Option.some.inj (hcur.symm.trans h)) hop.2
  · exact h

/-- A bad word ends the operation, which reports the first one (R140). -/
theorem runCommandMoves_corrupt {i : Nat} (hsel : s.hasSelected op c) (hwords : s.desc.nwords ≠ 0#2)
    (hfree : freeToMove rest) (hin : s.inputs = [.answer .writeOk, .answer .slept, .answer (.readOk bytes)] ++ rest)
    (hlen : bytes.length = 3 * s.desc.nwords.toNat)
    (hbad : firstBadWord s.params.crc bytes s.desc.nwords.toNat = some i) :
    RespondedKeeping s (State.runCommandMoves (k + 10) s) (.error .checksumMismatch (.word (BitVec.ofNat 2 i)))
      (s.readTrace c bytes) rest := by
  obtain ⟨hi, hfails, hgood⟩ := firstBadWord_eq_some hbad
  obtain ⟨regs, hverify⟩ := runCommandMoves_of_badWord
    (s := (s.onBus .read (s.readTrace c bytes) rest).enterVerify bytes) rfl rfl hfree hi hgood hfails rfl
  obtain ⟨m, hm⟩ : ∃ m, k + 4 = m + 2 + i := ⟨k + 2 - i, by have := s.desc.nwords.isLt; omega⟩
  rw [show k + 10 = k + 4 + 6 from rfl, runCommandMoves_to_verify hsel hwords hin hlen, hm, hverify]
  exact ⟨responded_deliver nofun rfl rfl rfl rfl rfl, rfl, rfl⟩

/-- A command with response words is not the init command (R82). -/
theorem cmdSel_ne_init_of_words (hsel : s.hasSelected op c) (hwords : s.desc.nwords ≠ 0#2) :
    s.cmdSel ≠ some .initAirQuality := by
  obtain ⟨-, -, -, hcmd, hdesc⟩ := hsel
  intro hinit
  obtain rfl := Option.some.inj (hcmd.symm.trans hinit)
  exact hwords (congrArg Desc.nwords hdesc)

/-- A whole answer of good words ends an operation that returns the result of its command (R142). -/
theorem runCommandMoves_verified (hsel : s.hasSelected op c) (hop : op ≠ .construct ∧ op ≠ .selfTest)
    (hwords : s.desc.nwords ≠ 0#2) (hfree : freeToMove rest)
    (hin : s.inputs = [.answer .writeOk, .answer .slept, .answer (.readOk bytes)] ++ rest)
    (hlen : bytes.length = 3 * s.desc.nwords.toNat)
    (hgood : firstBadWord s.params.crc bytes s.desc.nwords.toNat = none) :
    RespondedKeeping s (State.runCommandMoves (k + 10) s) (.ok (resultOf bytes s.desc.nwords.toNat))
      (s.readTrace c bytes) rest := by
  obtain ⟨n, hn⟩ : ∃ n, s.desc.nwords.toNat = n + 1 :=
    Nat.exists_eq_succ_of_ne_zero fun h => hwords (BitVec.eq_of_toNat_eq h)
  have hn3 : n ≤ 2 := by have := s.desc.nwords.isLt; omega
  have hinit := cmdSel_ne_init_of_words hsel hwords
  have hcur := curOp_of_hasSelected hsel
  have hreturn (regs : CrcRegs) := commandReturned_of_plain
    (s := ((s.onBus .read (s.readTrace c bytes) rest).enterVerify bytes).atWord n regs) hcur hop hinit
    (resultOf bytes (n + 1))
  obtain ⟨regs, hverify⟩ := runCommandMoves_of_goodWords
    (s := (s.onBus .read (s.readTrace c bytes) rest).enterVerify bytes) rfl rfl hfree hn
    (hn ▸ firstBadWord_eq_none_iff.1 hgood) hreturn fun _ => hfree
  obtain ⟨m, hm⟩ : ∃ m, k + 4 = m + 2 + n := ⟨k + 2 - n, by omega⟩
  rw [show k + 10 = k + 4 + 6 from rfl, runCommandMoves_to_verify hsel hwords hin hlen, hm, hverify, hn]
  refine ⟨responded_deliver ?_ rfl rfl rfl rfl rfl, rfl, rfl⟩
  rintro _ ⟨⟩
  rw [resultOf_length]
  omega

/-! ## One transaction -/

/-- The outcome of an answer of the wrong length (R139). -/
theorem commandVerdict_of_length_ne {p : CrcParams} (h : bytes.length ≠ 3 * n) :
    commandVerdict p n true (some bytes) = .error .transportError (.stage .readLength) := if_pos h

/-- The outcome of a whole answer is that of its first bad word, if it has one (R140, R142). -/
theorem commandVerdict_of_length {p : CrcParams} (h : bytes.length = 3 * n) :
    commandVerdict p n true (some bytes) = (firstBadWord p bytes n).elim (.ok (resultOf bytes n))
      fun i => .error .checksumMismatch (.word (BitVec.ofNat 2 i)) := by
  refine (if_neg (not_not.2 h)).trans ?_
  cases firstBadWord p bytes n <;> rfl

/-- The selected command of an operation that returns its result ends the operation with the outcome and the bus events
of its answers (R62, R217). -/
theorem runCommandMoves_transaction (hsel : s.hasSelected op c) (hop : op ≠ .construct ∧ op ≠ .selfTest)
    (hwords : s.desc.nwords ≠ 0#2) (hfree : freeToMove rest) (hin : s.inputs = commandAnswers ok r ++ rest) :
    RespondedKeeping s (State.runCommandMoves (k + 10) s) (commandVerdict s.params.crc s.desc.nwords.toNat ok r)
      (commandTrace s.params c s.desc.nwords.toNat s.desc.delay ok r) rest := by
  cases ok with
  | false => exact runCommandMoves_writeFailed hsel hfree hin
  | true =>
    cases r with
    | none => exact runCommandMoves_readFailed hsel hwords hfree hin
    | some bytes =>
      by_cases hlen : bytes.length = 3 * s.desc.nwords.toNat
      · rw [commandVerdict_of_length hlen]
        cases hfirst : firstBadWord s.params.crc bytes s.desc.nwords.toNat with
        | none => exact runCommandMoves_verified hsel hop hwords hfree hin hlen hfirst
        | some i => exact runCommandMoves_corrupt hsel hwords hfree hin hlen hfirst
      · rw [commandVerdict_of_length_ne hlen]
        exact runCommandMoves_wrongLength hsel hwords hfree hin hlen

/-! ## Operations of one command -/

/-- CTL has selected the command with which an operation starts from rest (R131). -/
theorem select_hasSelected (hcur : s.curOp = some op) (hout : s.outstanding = none) : (s.select c).hasSelected op c :=
  ⟨rfl, hout, hcur, rfl, rfl⟩

/-- An operation that starts with a command and returns its result ends with the outcome and the bus events of that
command. -/
theorem exec_of_oneCommand {i : Instr} {start : State → State} (ho : operationStart i = some (op, start))
    (hrest : s.atRest) (hlife : needsLife op = some s.life) (hop : op ≠ .construct ∧ op ≠ .selfTest)
    (hstart : start (s.begin op) = (s.begin op).select c) (hwords : commandWords c ≠ 0#2) (hfree : freeToMove rest)
    (hin : s.inputs = commandAnswers ok r ++ rest) :
    ∃ t, exec i s = .next t ∧ Responded s t (commandVerdict s.params.crc (commandWords c).toNat ok r)
      (commandTrace s.params c (commandWords c).toNat (commandDelay s.params c) ok r) rest ∧
      t.life = s.life ∧ t.cal = s.cal := by
  obtain ⟨hidle, hout⟩ := hrest
  have hsel : ((s.begin op).select c).hasSelected op c := select_hasSelected rfl hout
  have hrun := runCommandMoves_transaction (k := 22) hsel hop hwords hfree hin
  rw [exec_of_accepted ho hidle (.inr hlife), hstart, State.runOperation,
    show State.runMoves Config.moveBudget _ = _ from runMoves_of_responded hrun.toResponded]
  exact ⟨_, rfl, hrun.toResponded.of_start rfl rfl rfl rfl, hrun.life, hrun.cal⟩

/-- Settles O18: one command and no guard, so `CAL` is neither asked for nor moved. -/
theorem rawMeasurementReturnsTheBytes : Obligations.RawMeasurementReturnsTheBytes := by
  intro s ok r rest hrest hlife hfree hin
  exact exec_of_oneCommand (c := .measureRawSignals) rfl hrest (congrArg some hlife.symm) ⟨nofun, nofun⟩ rfl nofun hfree
    hin

/-! ## The result of a measurement -/

/-- `be16` in unbounded arithmetic (R14). -/
theorem be16_toNat (hi lo : Byte) : (be16 hi lo).toNat = hi.toNat * 256 + lo.toNat := by
  rw [be16, BitVec.toNat_append, ← Nat.shiftLeft_add_eq_or_of_lt lo.isLt, Nat.shiftLeft_eq]

/-- Two words with their right checksums are both good. -/
theorem commandVerdict_twoWords (p : CrcParams) (h0 l0 h1 l1 : Byte) :
    commandVerdict p 2 true (some [h0, l0, crc8 p [h0, l0], h1, l1, crc8 p [h1, l1]]) = .ok [h0, l0, h1, l1] := by
  have hgood : firstBadWord p [h0, l0, crc8 p [h0, l0], h1, l1, crc8 p [h1, l1]] 2 = none := by
    rw [firstBadWord_eq_none_iff]
    rintro (_ | _ | i) hi
    · rfl
    · rfl
    · omega
  rw [commandVerdict_of_length rfl, hgood]
  rfl

/-- A later MEASURE_AIR_QUALITY starts with the measure command (R178). -/
theorem startMeasureAirQuality_of_calibrating (h : s.cal = .calibrating) :
    startMeasureAirQuality s = s.select .measureAirQuality := by
  simp [startMeasureAirQuality, h]

/-- Settles O20: the operation returns the four value bytes, and each field is the two bytes of its word. -/
theorem measurementIsDecodedWithoutClamping : Obligations.MeasurementIsDecodedWithoutClamping := by
  intro s h0 l0 h1 l1 rest hrest hlife hcal hfree hin
  obtain ⟨t, hexec, hover, -, -⟩ := exec_of_oneCommand (i := .measureAirQuality) (c := .measureAirQuality) (ok := true)
    (r := some [h0, l0, crc8 s.params.crc [h0, l0], h1, l1, crc8 s.params.crc [h1, l1]]) rfl hrest
    (congrArg some hlife.symm) ⟨nofun, nofun⟩ (startMeasureAirQuality_of_calibrating hcal) nofun hfree hin
  have hshown : showsVerdict t.resp (.ok [h0, l0, h1, l1]) :=
    commandVerdict_twoWords s.params.crc h0 l0 h1 l1 ▸ hover.verdict_shown
  obtain ⟨herr, hlen, hdata, -⟩ := hshown
  rw [← hlen] at hdata
  refine ⟨t, hexec, herr, hlen, ?_, ?_⟩
  · rw [hdata]
    exact be16_toNat h0 l0
  · rw [hdata]
    exact be16_toNat h1 l1

/-! ## The first MEASURE_AIR_QUALITY -/

/-- `CAL` from the selection of the init command to its end (R179). -/
def calAtInit : CalSetPoint → Cal
  | .beforeInit => .calibrating
  | .afterInitOk => .uninitialized

/-- The first MEASURE_AIR_QUALITY starts with the init command (R178, R179). -/
theorem startMeasureAirQuality_of_uninitialized (h : s.cal = .uninitialized) :
    startMeasureAirQuality s = (s.setCal (calAtInit s.params.calSetPoint)).select .initAirQuality := by
  cases hp : s.params.calSetPoint with
  | beforeInit => simp [startMeasureAirQuality, h, hp, calAtInit]
  | afterInitOk =>
    have hkept : s.setCal .uninitialized = s := by rw [← h]; rfl
    simp [startMeasureAirQuality, h, hp, calAtInit, hkept]

/-- The block where the first MEASURE_AIR_QUALITY, accepted in `s`, has selected the init command. -/
def State.firstMeasurement (s : State) : State :=
  ((s.begin .measureAirQuality).setCal (calAtInit s.params.calSetPoint)).select .initAirQuality

/-- After the init command the measure command is selected, and `CAL` is `Calibrating` under either set point (R178,
R179). -/
theorem commandReturned_of_init (hcur : s.curOp = some .measureAirQuality) (hcmd : s.cmdSel = some .initAirQuality)
    (hcal : s.cal = calAtInit s.params.calSetPoint) (result : List Byte) :
    s.commandReturned result = (s.setCal .calibrating).select .measureAirQuality := by
  rcases commandReturned_cases result s with ⟨-, -, ⟨hp, h⟩ | ⟨-, h⟩⟩ | ⟨hother, -⟩
  · have hkept : s.setCal .calibrating = s := by
      rw [hp] at hcal
      rw [show Cal.calibrating = s.cal from hcal.symm]
      rfl
    rw [h, hkept]
  · exact h
  · exact absurd ⟨hcur, hcmd⟩ hother

/-- The sleep of a command with no response word is its end (R136). -/
theorem runMoves_sleep_noWords (hwords : s.desc.nwords = 0#2) :
    State.runMoves (k + 2) (s.onBus .settle made (.answer .slept :: rest))
      = State.runMoves k ((s.onBus .settle (made ++ [sleepEvent s.desc.delay]) rest).commandReturned []) := by
  have hissue : (s.onBus .settle made (.answer .slept :: rest)).advance
      = some (s.onBus .settle made (.answer .slept :: rest)).issueCall := rfl
  have htake : (s.onBus .settle made (.answer .slept :: rest)).issueCall.advance = some
      ((s.onBus .settle made (.answer .slept :: rest)).logAnswer (.sleep s.desc.delay) .slept rest).sleepReturned := rfl
  rw [runMoves_of_advance hissue, runMoves_of_advance htake, onBus_logAnswer]
  exact congrArg _ (if_pos hwords)

/-- The init command with its write and sleep answered, up to the measure command (R136, R178). -/
theorem runMoves_init (hsel : s.hasSelected .measureAirQuality .initAirQuality)
    (hcal : s.cal = calAtInit s.params.calSetPoint) (hin : s.inputs = initAnswers true ++ rest) :
    State.runMoves (k + 4) s = State.runMoves k
      (((s.onBus .settle (initTrace s.params true) rest).setCal .calibrating).select .measureAirQuality) := by
  have hwrite : State.runCommandMoves 2 s
      = s.onBus .settle [writeEvent s.params .initAirQuality true] (.answer .slept :: rest) :=
    runCommandMoves_write (k := 0) (ok := true) hsel hin (onAnswer_writeOk rfl) (readyCommand_eq_none_of_phase nofun)
  obtain ⟨-, -, hcur, hcmd, hdesc⟩ := hsel
  have hready : (State.runCommandMoves 2 s).readyCommand = none := by
    rw [hwrite]
    exact readyCommand_eq_none_of_phase nofun
  rw [show k + 4 = 2 + (k + 2) by omega, runMoves_add, runMoves_eq_runCommandMoves hready, hwrite,
    runMoves_sleep_noWords (congrArg Desc.nwords hdesc),
    commandReturned_of_init (s := s.onBus .settle _ rest) hcur hcmd hcal, hdesc]
  rfl

/-- The init command, then the measure command as one transaction (R178, R179). -/
theorem runMoves_init_then_measure (hsel : s.hasSelected .measureAirQuality .initAirQuality)
    (hcal : s.cal = calAtInit s.params.calSetPoint) (hfree : freeToMove rest)
    (hin : s.inputs = initAnswers true ++ (commandAnswers ok r ++ rest)) :
    Responded s (State.runMoves (k + 14) s) (commandVerdict s.params.crc 2 ok r)
      (initTrace s.params true ++ commandTrace s.params .measureAirQuality 2 s.params.settleDefaultMs ok r) rest ∧
    (State.runMoves (k + 14) s).life = s.life ∧ (State.runMoves (k + 14) s).cal = .calibrating := by
  have hcur := curOp_of_hasSelected hsel
  have hmeasure := runCommandMoves_transaction (k := k) (ok := ok) (r := r)
    (s := ((s.onBus .settle (initTrace s.params true) (commandAnswers ok r ++ rest)).setCal .calibrating).select
      .measureAirQuality)
    (select_hasSelected hcur rfl) ⟨nofun, nofun⟩ nofun hfree rfl
  rw [show k + 14 = k + 10 + 4 from rfl, runMoves_init hsel hcal hin, runMoves_of_responded hmeasure.toResponded]
  exact ⟨hmeasure.toResponded.of_later rfl rfl rfl rfl, hmeasure.life, hmeasure.cal⟩

/-- Settles O16: the init command is selected first; its failed write ends the operation, else the measure command
follows. -/
theorem firstMeasurementInitialisesThenMeasures : Obligations.FirstMeasurementInitialisesThenMeasures := by
  intro s ok r rest hrest hlife hcal hfree
  obtain ⟨hidle, hout⟩ := hrest
  have hstart : startMeasureAirQuality (s.begin .measureAirQuality) = s.firstMeasurement :=
    startMeasureAirQuality_of_uninitialized hcal
  have hsel : s.firstMeasurement.hasSelected .measureAirQuality .initAirQuality := select_hasSelected rfl hout
  rw [exec_of_accepted (i := .measureAirQuality) rfl hidle (.inr (congrArg some hlife.symm)), hstart,
    State.runOperation]
  refine ⟨fun hin => ?_, fun hin => ?_⟩
  · have hrun := runCommandMoves_writeFailed (k := 29) hsel hfree hin
    rw [show State.runMoves Config.moveBudget _ = _ from runMoves_of_responded hrun.toResponded]
    exact ⟨_, rfl, hrun.toResponded.of_start rfl rfl rfl rfl, hrun.life,
      fun hp => hrun.cal.trans (congrArg calAtInit hp), fun hp => hrun.cal.trans (congrArg calAtInit hp)⟩
  · obtain ⟨hover, hlife', hcal'⟩ := runMoves_init_then_measure (k := 18) hsel rfl hfree hin
    exact ⟨_, rfl, hover.of_start rfl rfl rfl rfl, hlife', hcal'⟩

end Sys2Proof.Machine
end

section
/-! Which request words a step accepts (60_exceptions.md R213): the rows of the request table (30_encoding.md R80), the
`LIFE` each needs, and the step on the head of the schedule as those two together. -/

namespace Sys2Proof

variable {w : ReqWord} {i : Instr}

theorem bareRequest_eq_ok_iff {data : Word} {j : Instr} : bareRequest data j = .ok i ↔ data = 0#16 ∧ i = j := by
  unfold bareRequest
  split <;> simp [*, eq_comm]

/-- The rows of the request table: the words that spell a request, and which one (R80, R84). -/
theorem decodeHostReq_eq_ok_iff : decodeHostReq w = .ok i ↔
    ((reqOp w).toNat = 0 ∧ reqData w = 0#16 ∧ i = .construct) ∨
    ((reqOp w).toNat = 1 ∧ reqData w = 0#16 ∧ i = .identify) ∨
    ((reqOp w).toNat = 2 ∧ reqData w = 0#16 ∧ i = .selfTest) ∨
    ((reqOp w).toNat = 3 ∧ reqData w = 0#16 ∧ i = .measureAirQuality) ∨
    ((reqOp w).toNat = 4 ∧ reqData w = 0#16 ∧ i = .measureRawSignals) ∨
    ((reqOp w).toNat = 5 ∧ i = .checksum (reqData w)) := by
  unfold decodeHostReq
  split
  case h_7 => simp_all
  all_goals simp [*, bareRequest_eq_ok_iff, eq_comm (a := i)]

end Sys2Proof

namespace Sys2Proof.Machine

variable {s : State} {w : ReqWord} {rest : List Input} {i : Instr} {l : Life}

/-- The column of R213 on `LIFE`: the operation the instruction asks for may be requested in `LIFE = l`. -/
def acceptedIn (l : Life) (i : Instr) : Prop :=
  ∃ op start, operationStart i = some (op, start) ∧ (needsLife op = none ∨ needsLife op = some l)

theorem acceptedIn_iff {op : HostOp} {start : State → State} (ho : operationStart i = some (op, start)) :
    acceptedIn l i ↔ needsLife op = none ∨ needsLife op = some l := by
  simp [acceptedIn, ho]

/-- A word that decodes is executed with the word taken off the host port. -/
theorem step_of_decoded_request (hin : s.inputs = .request w :: rest) (hd : decodeHostReq w = .ok i) :
    step s = exec i (s.takeInput rest) := by
  have hstep : step s = runRequest w (s.takeInput rest) := by simp [step, hin]
  simp [hstep, runRequest, fetchRequest, decode, hd]

/-- Every request word that decodes asks for an operation. -/
theorem operationStart_of_decodeHostReq (hd : decodeHostReq w = .ok i) :
    ∃ op start, operationStart i = some (op, start) := by
  rcases decodeHostReq_eq_ok_iff.1 hd with
    ⟨-, -, rfl⟩ | ⟨-, -, rfl⟩ | ⟨-, -, rfl⟩ | ⟨-, -, rfl⟩ | ⟨-, -, rfl⟩ | ⟨-, rfl⟩
  all_goals exact ⟨_, _, rfl⟩

/-- A request goes on exactly at `IDLE` in a `LIFE` it is accepted in. -/
theorem exec_accepted_iff {op : HostOp} {start : State → State} (ho : operationStart i = some (op, start)) :
    (∃ t, exec i s = .next t) ↔ s.phase = .idle ∧ acceptedIn s.life i := by
  rw [acceptedIn_iff ho]
  constructor
  · rintro ⟨t, ht⟩
    rw [exec_of_operationStart ho] at ht
    obtain ⟨hidle, hlife, -⟩ := hostRequest_next ht
    exact ⟨hidle, hlife⟩
  · rintro ⟨hidle, hlife⟩
    exact ⟨_, exec_of_accepted ho hidle hlife⟩

/-- A host request never faults. -/
theorem hostRequest_next_or_refused (op : HostOp) (need : Option Life) (start : State → State) (s : State) :
    (∃ t, hostRequest op need start s = .next t) ∨ ∃ r, hostRequest op need start s = .refused r := by
  unfold hostRequest
  split
  · exact .inr ⟨_, rfl⟩
  · exact .inl ⟨_, rfl⟩

/-- A step on a request word accepts it or refuses it (R213). -/
theorem step_request_next_or_refused (hin : s.inputs = .request w :: rest) :
    (∃ t, step s = .next t) ∨ ∃ r, step s = .refused r := by
  cases hd : decodeHostReq w with
  | error e => exact .inr ⟨_, step_of_rejected_request hin hd⟩
  | ok i =>
    obtain ⟨op, start, ho⟩ := operationStart_of_decodeHostReq hd
    rw [step_of_decoded_request hin hd, exec_of_operationStart ho]
    exact hostRequest_next_or_refused _ _ _ _

/-- A step accepts a request word at `IDLE` where the word spells an operation that `LIFE` admits. -/
theorem step_request_accepted_iff (hin : s.inputs = .request w :: rest) :
    (∃ t, step s = .next t) ↔ s.phase = .idle ∧ ∃ i, decodeHostReq w = .ok i ∧ acceptedIn s.life i := by
  cases hd : decodeHostReq w with
  | error e => simp [step_of_rejected_request hin hd]
  | ok i =>
    obtain ⟨op, start, ho⟩ := operationStart_of_decodeHostReq hd
    rw [step_of_decoded_request hin hd, exec_accepted_iff ho]
    simp

/-- The words that spell an operation admitted in `LIFE = l`, by the fields of the word (R80, R213). -/
theorem spells_acceptedIn_iff : (∃ i, decodeHostReq w = .ok i ∧ acceptedIn l i) ↔
    ((reqOp w).toNat = 0 ∧ reqData w = 0#16 ∧ l = .unbound) ∨
    (1 ≤ (reqOp w).toNat ∧ (reqOp w).toNat ≤ 4 ∧ reqData w = 0#16 ∧ l = .ready) ∨ (reqOp w).toNat = 5 := by
  have hsensor : 1 ≤ (reqOp w).toNat ∧ (reqOp w).toNat ≤ 4 ↔
      (reqOp w).toNat = 1 ∨ (reqOp w).toNat = 2 ∨ (reqOp w).toNat = 3 ∨ (reqOp w).toNat = 4 := by omega
  rw [← and_assoc (a := 1 ≤ _), hsensor]
  simp [decodeHostReq_eq_ok_iff, or_and_right, exists_or, and_assoc, or_assoc, acceptedIn, operationStart, needsLife,
    eq_comm (b := l)]

/-! ## SELF_TEST after calibration -/

/-- A verdict is delivered by the operation that reached it (R145). -/
theorem runOperation_conclude {v : Verdict} (hfree : freeToMove s.inputs) :
    (s.conclude v).runOperation = (s.conclude v).deliver v := by
  have hrun : State.runCommandMoves Config.moveBudget (s.conclude v) = (s.conclude v).deliver v :=
    runCommandMoves_conclude hfree
  rw [State.runOperation, runMoves_eq_runCommandMoves (readyCommand_eq_none_of_phase (by rw [hrun]; nofun)), hrun]

/-- The guard of SELF_TEST raises before any command is selected (R175). -/
theorem startSelfTest_of_calibrating (h : s.cal = .calibrating) :
    startSelfTest s = s.conclude (.error .sequencingViolation .none) := by
  simp [startSelfTest, h]

/-- A SELF_TEST with `CAL = Calibrating` is accepted, and its response is the sequencing error (R175, R213). -/
theorem exec_selfTest_of_calibrating (hidle : s.phase = .idle) (hlife : s.life = .ready) (hcal : s.cal = .calibrating)
    (hfree : freeToMove s.inputs) :
    exec .selfTest s = .next (((s.begin .selfTest).conclude (.error .sequencingViolation .none)).deliver
      (.error .sequencingViolation .none)) := by
  rw [exec_of_accepted (i := .selfTest) rfl hidle (.inr (congrArg some hlife.symm)),
    startSelfTest_of_calibrating (s := s.begin .selfTest) hcal, runOperation_conclude (s := s.begin .selfTest) hfree]

/-- Settles O9: the words an operation is spelled by, with the `LIFE` it needs, are the rows of the table; the error
code of the last clause is that of the guard of SELF_TEST. -/
theorem requestsAreAcceptedByTheTable : Obligations.RequestsAreAcceptedByTheTable := by
  intro s w rest hin
  refine ⟨?_, step_request_next_or_refused hin, ?_⟩
  · rw [step_request_accepted_iff hin, spells_acceptedIn_iff]
    rfl
  · rintro rfl hidle hlife hcal hfree
    rw [step_of_decoded_request (i := .selfTest) hin rfl,
      exec_selfTest_of_calibrating (s := s.takeInput rest) hidle hlife hcal hfree]
    exact ⟨_, rfl, rfl⟩

end Sys2Proof.Machine
end

section
/-! The two directions of the encoding (30_encoding.md R71, R80, R82): decoding the words of an instruction gives it
back under distinct opcodes, and a frame that decodes is the frame of its instruction. Then the tables and the views
that rest on them. -/

namespace Sys2Proof

variable {p : Params} {w : ReqWord} {c : Command}

/-! ## Commands and their opcodes -/

@[simp] theorem mem_commandAll (c : Command) : c ∈ Command.all := by cases c <;> decide

/-- Distinct opcodes name distinct commands (R10). -/
theorem opcode_injective (hp : p.wf = true) : Function.Injective p.opcode := by
  have hnodup : (Command.all.map p.opcode).Nodup := by simpa [Params.wf] using hp
  intro c d h
  exact List.inj_on_of_nodup_map hnodup (mem_commandAll c) (mem_commandAll d) h

/-- The command an opcode names has that opcode. -/
theorem opcode_of_commandOf {op : Opcode} (h : commandOf p op = some c) : p.opcode c = op := by
  simpa using List.find?_some h

/-- With distinct opcodes, the opcode of a command names it (R10, R82). -/
theorem commandOf_opcode (hp : p.wf = true) (c : Command) : commandOf p (p.opcode c) = some c := by
  cases hfound : commandOf p (p.opcode c) with
  | none => exact absurd (List.find?_eq_none.1 hfound c (mem_commandAll c)) (by simp)
  | some d => rw [opcode_injective hp (opcode_of_commandOf hfound)]

theorem encode_ofCommand (p : Params) (c : Command) : encode p (.ofCommand c) = .cmd (cmdBytes (p.opcode c)) := by
  cases c <;> rfl

/-! ## Words from their fields, and back -/

theorem hiByte_be16 (hi lo : Byte) : hiByte (be16 hi lo) = hi := by
  apply BitVec.eq_of_toNat_eq
  have hlo := lo.isLt
  have hhi := hi.isLt
  rw [hiByte, BitVec.extractLsb'_toNat, Machine.be16_toNat, Nat.shiftRight_eq_div_pow]
  omega

theorem loByte_be16 (hi lo : Byte) : loByte (be16 hi lo) = lo := by
  apply BitVec.eq_of_toNat_eq
  have hlo := lo.isLt
  rw [loByte, BitVec.extractLsb'_toNat, Machine.be16_toNat, Nat.shiftRight_zero]
  omega

/-- Two bytes are the frame of the opcode they make up (R71). -/
theorem cmdBytes_be16 (hi lo : Byte) : cmdBytes (be16 hi lo) = [hi, lo] := by
  rw [cmdBytes, hiByte_be16, loByte_be16]

/-- A request word is made up of its two fields (R80). -/
theorem reqWord_fields (w : ReqWord) : reqWord (reqOp w) (reqData w) = w := by
  apply BitVec.eq_of_toNat_eq
  have h := w.isLt
  have hdata := (reqData w).isLt
  rw [reqWord, BitVec.toNat_append, ← Nat.shiftLeft_add_eq_or_of_lt hdata, Nat.shiftLeft_eq]
  simp only [reqOp, reqData, BitVec.extractLsb'_toNat, Nat.shiftRight_eq_div_pow]
  omega

/-- A request word with the given fields is the one made up of them. -/
theorem reqWord_of_fields {op : BitVec 4} {data : Word} (hop : (reqOp w).toNat = op.toNat) (hdata : reqData w = data) :
    reqWord op data = w := by
  rw [← BitVec.eq_of_toNat_eq hop, ← hdata, reqWord_fields]

/-! ## Decoding and encoding -/

/-- The frame of a command decodes to its instruction (R82). -/
theorem decodeCmd_cmdBytes (hp : p.wf = true) (c : Command) :
    decodeCmd p (cmdBytes (p.opcode c)) = .ok (.ofCommand c) := by
  simp [cmdBytes, decodeCmd, be16_bytes, commandOf_opcode hp]

/-- A byte sequence that decodes is the two bytes of an opcode that names the command (R71, R85). -/
theorem decodeCmd_eq_ok {bytes : List Byte} {i : Instr} (h : decodeCmd p bytes = .ok i) :
    ∃ hi lo c, bytes = [hi, lo] ∧ commandOf p (be16 hi lo) = some c ∧ i = .ofCommand c := by
  unfold decodeCmd at h
  split at h
  · rename_i hi lo
    split at h
    · rename_i c hc
      cases h
      exact ⟨hi, lo, c, rfl, hc, rfl⟩
    · cases h
  · cases h

/-- CHECKSUM is decoded with any operand (R79, R80). -/
theorem decodeHostReq_checksum (data : Word) : decodeHostReq (reqWord 0x5#4 data) = .ok (.checksum data) := by
  simp [decodeHostReq_eq_ok_iff, reqOp_reqWord, reqData_reqWord]

/-- Settles O2: a request word gives back its fields; a command frame gives back its opcode, which names one command. -/
theorem decodingAnEncodedInstructionGivesItBack : Obligations.DecodingAnEncodedInstructionGivesItBack := by
  intro p hp i
  cases i with
  | construct | identify | selfTest | measureAirQuality | measureRawSignals => rfl
  | checksum data => exact decodeHostReq_checksum data
  | cmdGetSerialId => exact decodeCmd_cmdBytes hp .getSerialId
  | cmdMeasureTest => exact decodeCmd_cmdBytes hp .measureTest
  | cmdInitAirQuality => exact decodeCmd_cmdBytes hp .initAirQuality
  | cmdMeasureAirQuality => exact decodeCmd_cmdBytes hp .measureAirQuality
  | cmdMeasureRawSignals => exact decodeCmd_cmdBytes hp .measureRawSignals

/-- Settles O3: the fields of a request word that decodes, and the opcode of a frame that does, are those of the
instruction. -/
theorem aDecodedFrameIsItsEncoding : Obligations.ADecodedFrameIsItsEncoding := by
  rintro p (w | bytes) i h
  · rcases decodeHostReq_eq_ok_iff.1 h with ⟨hop, hdata, rfl⟩ | ⟨hop, hdata, rfl⟩ | ⟨hop, hdata, rfl⟩ |
      ⟨hop, hdata, rfl⟩ | ⟨hop, hdata, rfl⟩ | ⟨hop, rfl⟩
    case inr.inr.inr.inr.inr => exact congrArg Frame.hostReq (reqWord_of_fields hop rfl)
    all_goals exact congrArg Frame.hostReq (reqWord_of_fields hop hdata)
  · obtain ⟨hi, lo, c, rfl, hc, rfl⟩ := decodeCmd_eq_ok h
    rw [encode_ofCommand, opcode_of_commandOf hc, cmdBytes_be16]

/-- Settles O1: each row of the table is a closed word. -/
theorem tableWordsDecodeToTheirRows : Obligations.TableWordsDecodeToTheirRows := by
  refine ⟨?_, ?_, ?_, ?_, ?_, ?_, ?_, ?_, ?_, ?_, ?_, ?_, ?_, ?_⟩ <;> decide

/-- Settles O21: each half of the view is `be16` of its pair, and the pairs stand one after the other. -/
theorem identifierViewIsBigEndian : Obligations.IdentifierViewIsBigEndian := by
  intro a b c d e f
  have hview : id48 [a, b, c, d, e, f] = be16 a b ++ be16 c d ++ be16 e f := rfl
  rw [hview, BitVec.toNat_append, ← Nat.shiftLeft_add_eq_or_of_lt (be16 e f).isLt, BitVec.toNat_append,
    ← Nat.shiftLeft_add_eq_or_of_lt (be16 c d).isLt]
  simp only [Machine.be16_toNat, Nat.shiftLeft_eq]
  ring

end Sys2Proof

namespace Sys2Proof.Machine

variable {s : State} {op : HostOp} {c : Command} {rest : List Input} {i : Instr}

/-! ## The instruction at the ports -/

/-- Where nothing the outside does is served first, a step is the block's own turn. -/
theorem step_of_free (hfree : s.heldUp = false) : step s = blockTurn s := by
  unfold step
  split
  case h_5 => rfl
  all_goals
    rename_i hin
    exact absurd (heldUp_of_inputs hin) (by simp [hfree, Input.holdsUp])

/-- The block's turn executes the command CTL has selected (R131). -/
theorem blockTurn_of_readyCommand (h : s.readyCommand = some c) : blockTurn s = exec (.ofCommand c) s := by
  simp [blockTurn, h]

theorem readyCommand_of_hasSelected (h : s.hasSelected op c) : s.readyCommand = some c := by
  obtain ⟨hphase, hout, -, hsel, -⟩ := h
  exact readyCommand_eq_some.2 ⟨hphase, hout, hsel⟩

/-- Settles O5: the request is served first, and it decodes. -/
theorem stepExecutesTheRequestOnTheHostPort : Obligations.StepExecutesTheRequestOnTheHostPort :=
  fun _ _ _ _ hin hd => step_of_decoded_request hin hd

/-- Settles O6: the step is the block's turn, which executes the selected command. -/
theorem stepExecutesTheSelectedCommand : Obligations.StepExecutesTheSelectedCommand := by
  intro s op c hsel hfree
  rw [step_of_free hfree, blockTurn_of_readyCommand (readyCommand_of_hasSelected hsel)]

/-- Settles O10: the command that runs is the one `readyCommand` names. -/
theorem unselectedCommandsAreRefused : Obligations.UnselectedCommandsAreRefused := by
  intro s c hnot
  rw [exec_ofCommand, execCommand, if_neg (mt readyCommand_eq_some.1 hnot)]

/-- A table row decodes by the frame it is. -/
theorem decodeTableWord_eq_some {nbits w : Nat} (h : decodeTableWord nbits w = some i) :
    ∃ f, frameOfTableWord nbits w = some f ∧ decode Params.default f = .ok i := by
  unfold decodeTableWord at h
  split at h
  · rename_i f hf
    refine ⟨f, hf, ?_⟩
    cases hd : decode Params.default f with
    | ok j => simpa [hd, Except.toOption] using h
    | error e => simp [hd, Except.toOption] at h
  · cases h

/-- Settles O7: the row becomes the request at the head of the schedule, which decodes to `i`. -/
theorem aPlacedRequestIsExecutedNext : Obligations.APlacedRequestIsExecutedNext := by
  intro s w i hw hrow
  obtain ⟨f, hf, hd⟩ := decodeTableWord_eq_some hrow
  have hframe : frameOfTableWord 24 w = some (.hostReq (BitVec.ofNat 20 w)) := by
    simpa [frameOfTableWord] using hw
  obtain rfl := Option.some.inj (hframe.symm.trans hf)
  rw [State.withFetchWord, hframe]
  exact step_of_decoded_request (s := placeRequest _ s) rfl hd

/-- What is left of a schedule without the inputs at its head that are served first holds nothing up. -/
theorem freeToMove_dropWhile (l : List Input) : freeToMove (l.dropWhile Input.holdsUp) := by
  unfold freeToMove
  cases hl : (l.dropWhile Input.holdsUp).head? with
  | none => rfl
  | some a => simpa [hl] using List.head?_dropWhile_not Input.holdsUp l

/-- Settles O8: placing the row selects the command, and the step executes it. -/
theorem aPlacedCommandIsExecutedNext : Obligations.APlacedCommandIsExecutedNext := by
  intro s w i hparams hrow
  obtain ⟨f, hf, hd⟩ := decodeTableWord_eq_some hrow
  obtain ⟨b, rfl⟩ : ∃ b, f = .cmd (cmdBytes b) := by
    rw [frameOfTableWord, if_pos rfl] at hf
    split at hf
    · exact ⟨_, (Option.some.inj hf).symm⟩
    · cases hf
  have hcmd : decodeCmd Params.default (cmdBytes b) = .ok i := hd
  obtain ⟨hi, lo, c, hbytes, hc, rfl⟩ := decodeCmd_eq_ok hcmd
  have hplaced : s.withFetchWord 16 w = placeCommand c s := by
    rw [State.withFetchWord, hf]
    simp [placeFrame, hbytes, hparams, hc]
  rw [hplaced]
  exact stepExecutesTheSelectedCommand (placeCommand c s) (operationOf s.life c) c ⟨rfl, rfl, rfl, rfl, rfl⟩
    (freeToMove_dropWhile s.inputs)

end Sys2Proof.Machine
end

section
/-! The invariant of the machine (10_state.md section 1 to 5) is kept by every step. A change of phase starts from
what the invariant says in every phase alike, `State.PhaseFree`, and adds what the phase it enters asks for. -/

namespace Sys2Proof.Machine

variable {s t : State} {op : HostOp} {c : Command} {v : Verdict} {bytes : List Byte}

/-- What the invariant says in every phase alike, with no call outstanding and no verdict carried. -/
structure State.PhaseFree (s : State) : Prop where
  no_call : s.outstanding = none
  no_verdict : s.verdict = none
  calibrating_ready : s.cal = .calibrating → s.life = .ready
  rxbuf_bound : s.rxbuf.length ≤ 9
  resp_ok : respOk s.resp
  responses_ok : ∀ r ∈ s.responses, respOk r
  log_ok : ∀ e ∈ s.busLog, busEventOk s.params e

/-- Operation `op` runs command `c`, whose row is in `DESC`, with the `LIFE` and `CAL` it runs in (R27, R83). -/
structure State.Runs (op : HostOp) (c : Command) (s : State) : Prop where
  curOp : s.curOp = some op
  cmdSel : s.cmdSel = some c
  runs : runsCommand op c = true
  desc : s.desc = descOf s.params c
  life : needsLife op = some s.life
  cal : calDuring s.params.calSetPoint op c s.cal

theorem State.Inv.runs (h : s.Inv) (hin : s.phase.inCommand = true) : ∃ op c, s.Runs op c := by
  obtain ⟨op, c, hop, hc, hruns, hdesc, hlife, hcal⟩ := h.command_of_operation hin
  exact ⟨op, c, hop, hc, hruns, hdesc, hlife, hcal⟩

theorem State.Inv.no_verdict (h : s.Inv) (hphase : s.phase ≠ .finish) : s.verdict = none :=
  Option.not_isSome_iff_eq_none.1 (mt h.verdict_in_finish.1 hphase)

/-- In a phase without a transport call none is outstanding. -/
theorem State.Inv.no_call (h : s.Inv) (hphase : s.phaseCall = none) : s.outstanding = none :=
  Option.eq_none_iff_forall_ne_some.2 fun call ho => nomatch (h.call_of_phase call ho).symm.trans hphase

theorem State.Inv.phaseFree (h : s.Inv) (hout : s.outstanding = none) (hphase : s.phase ≠ .finish) : s.PhaseFree :=
  ⟨hout, h.no_verdict hphase, h.calibrating_ready, h.rxbuf_bound, h.resp_ok, h.responses_ok, h.log_ok⟩

/-- A call the block makes now, with an answer that fits or with none, is an event of the rules. -/
theorem State.Inv.eventOk (h : s.Inv) {e : BusEvent} (ho : s.outstanding = some e.call)
    (hfits : ∀ a, e.answer = some a → answerFits e.call a = true) : busEventOk s.params e :=
  ⟨h.callsSince.outstanding_ok e.call ho, hfits⟩

/-- The answer a phase takes fits the call of the phase (R16). -/
theorem answerFits_of_onAnswer {call : BusCall} {a : Answer} (hcall : s.phaseCall = some call)
    (ha : s.onAnswer a = some t) : answerFits call a = true := by
  rcases onAnswer_cases ha with ⟨present, hp, rfl, -⟩ | ⟨hp, rfl, -⟩ | ⟨hp, rfl, -⟩ | ⟨hp, rfl, -⟩ | ⟨hp, rfl, -⟩ |
    ⟨bytes, hp, rfl, -⟩
  all_goals
    simp only [State.phaseCall, hp, Option.some.injEq] at hcall
    rw [← hcall]
    rfl

/-- The answer to the outstanding call taken, no call is outstanding and the history is still one of the rules. -/
theorem State.Inv.logAnswer_phaseFree {call : BusCall} {a : Answer} (h : s.Inv) (ho : s.outstanding = some call)
    (hfits : answerFits call a = true) (rest : List Input) : (s.logAnswer call a rest).PhaseFree where
  no_call := rfl
  no_verdict := h.no_verdict fun hp => by simpa [State.phaseCall, hp] using h.call_of_phase call ho
  calibrating_ready := h.calibrating_ready
  rxbuf_bound := h.rxbuf_bound
  resp_ok := h.resp_ok
  responses_ok := h.responses_ok
  log_ok := List.forall_mem_append.2 ⟨h.log_ok, List.forall_mem_singleton.2
    (h.eventOk (e := { call := call, answer := some a }) ho fun _ hb => Option.some.inj hb ▸ hfits)⟩

/-- The first MEASURE_AIR_QUALITY starts with `CAL` as it is while the init command runs (R179). -/
theorem calDuring_calAtInit (sp : CalSetPoint) : calDuring sp .measureAirQuality .initAirQuality (calAtInit sp) := by
  cases sp <;> rfl

theorem respOk_atReset : respOk Resp.atReset := ⟨by decide, by decide, fun _ => rfl⟩

namespace State.PhaseFree

/-! The entry of each phase. -/

theorem inv_of_idle (h : s.PhaseFree) (hidle : s.phase = .idle) (hcmd : s.cmdSel = none) : s.Inv where
  call_of_phase := by simp [h.no_call]
  verdict_in_finish := by simp [h.no_verdict, hidle]
  no_command := fun _ => hcmd
  scan_of_construct := by simp [hidle]
  command_of_operation := by simp [hidle, Phase.inCommand]
  calibrating_ready := h.calibrating_ready
  read_has_words := by simp [hidle]
  rxbuf_bound := h.rxbuf_bound
  verify_whole := by simp [hidle]
  result_bound := by simp [h.no_verdict]
  resp_ok := h.resp_ok
  responses_ok := h.responses_ok
  log_ok := h.log_ok

theorem startScan (h : s.PhaseFree) (hop : s.curOp = some .construct) (hcmd : s.cmdSel = none)
    (hlife : s.life = .unbound) : s.startScan.Inv where
  call_of_phase := by simp [h.no_call]
  verdict_in_finish := by simp [h.no_verdict]
  no_command := fun _ => hcmd
  scan_of_construct := fun _ => ⟨hop, hlife⟩
  command_of_operation := nofun
  calibrating_ready := h.calibrating_ready
  read_has_words := nofun
  rxbuf_bound := h.rxbuf_bound
  verify_whole := nofun
  result_bound := by simp [h.no_verdict]
  resp_ok := h.resp_ok
  responses_ok := h.responses_ok
  log_ok := h.log_ok

theorem conclude (h : s.PhaseFree) (hv : ∀ r, v = .ok r → r.length ≤ 6) : (s.conclude v).Inv where
  call_of_phase := by simp [h.no_call]
  verdict_in_finish := by simp
  no_command := by simp
  scan_of_construct := nofun
  command_of_operation := nofun
  calibrating_ready := h.calibrating_ready
  read_has_words := nofun
  rxbuf_bound := h.rxbuf_bound
  verify_whole := nofun
  result_bound := fun r hr => hv r (Option.some.inj hr)
  resp_ok := h.resp_ok
  responses_ok := h.responses_ok
  log_ok := h.log_ok

/-- In a phase of TXN the running command belongs to the operation (R24, R83). -/
theorem inv_of_runs (h : s.PhaseFree) (hruns : s.Runs op c) (hphase : s.phase.inCommand = true)
    (hread : s.phase = .read → s.desc.nwords ≠ 0#2)
    (hverify : s.phase = .verify → s.rxbuf.length = 3 * s.desc.nwords.toNat ∧ s.widx.toNat < s.desc.nwords.toNat) :
    s.Inv where
  call_of_phase := by simp [h.no_call]
  verdict_in_finish := by
    rw [h.no_verdict]
    exact ⟨nofun, fun hp => by simp [hp, Phase.inCommand] at hphase⟩
  no_command := by rintro (hp | hp) <;> simp [hp, Phase.inCommand] at hphase
  scan_of_construct := fun hp => by simp [hp, Phase.inCommand] at hphase
  command_of_operation := fun _ =>
    ⟨op, c, hruns.curOp, hruns.cmdSel, hruns.runs, hruns.desc, hruns.life, hruns.cal⟩
  calibrating_ready := h.calibrating_ready
  read_has_words := hread
  rxbuf_bound := h.rxbuf_bound
  verify_whole := hverify
  result_bound := by simp [h.no_verdict]
  resp_ok := h.resp_ok
  responses_ok := h.responses_ok
  log_ok := h.log_ok

theorem setLife_ready (h : s.PhaseFree) : (s.setLife .ready).PhaseFree :=
  { h with calibrating_ready := fun _ => rfl }

theorem setCal (h : s.PhaseFree) (cal : Cal) (hlife : s.life = .ready) : (s.setCal cal).PhaseFree :=
  { h with calibrating_ready := fun _ => hlife }

theorem setCrc (h : s.PhaseFree) (r : CrcRegs) : (s.setCrc r).PhaseFree := { h with }

theorem begin (h : s.PhaseFree) (op : HostOp) : (s.begin op).PhaseFree := { h with }

theorem select (h : s.PhaseFree) (hop : s.curOp = some op) (hruns : runsCommand op c = true)
    (hlife : needsLife op = some s.life) (hcal : calDuring s.params.calSetPoint op c s.cal) : (s.select c).Inv :=
  inv_of_runs (s := s.select c) { h with } ⟨hop, rfl, hruns, rfl, hlife, hcal⟩ rfl nofun nofun

theorem enterSettle (h : s.PhaseFree) (hruns : s.Runs op c) : s.enterSettle.Inv :=
  inv_of_runs (s := s.enterSettle) { h with } { hruns with } rfl nofun nofun

theorem enterRead (h : s.PhaseFree) (hruns : s.Runs op c) (hwords : s.desc.nwords ≠ 0#2) : s.enterRead.Inv :=
  inv_of_runs (s := s.enterRead) { h with } { hruns with } rfl (fun _ => hwords) nofun

theorem enterVerify (h : s.PhaseFree) (hruns : s.Runs op c) (hwords : s.desc.nwords ≠ 0#2)
    (hlen : bytes.length = 3 * s.desc.nwords.toNat) : (s.enterVerify bytes).Inv := by
  have hlt := s.desc.nwords.isLt
  have hpos : 0 < s.desc.nwords.toNat := Nat.pos_of_ne_zero fun h0 => hwords (BitVec.eq_of_toNat_eq h0)
  refine inv_of_runs (s := s.enterVerify bytes) { h with rxbuf_bound := ?_ } { hruns with } rfl nofun
    fun _ => ⟨hlen, hpos⟩
  rw [State.enterVerify_rxbuf, hlen]
  omega

/-- The end of a command ends its operation or goes on to the measure command (R178, R179). -/
theorem commandReturned (h : s.PhaseFree) (hruns : s.Runs op c) {r : List Byte} (hr : r.length ≤ 6) :
    (s.commandReturned r).Inv := by
  have hbound : ∀ r', Verdict.ok r = .ok r' → r'.length ≤ 6 := by rintro _ ⟨⟩; exact hr
  rcases commandReturned_cases r s with
    ⟨hop, hc, ⟨hp, he⟩ | ⟨hp, he⟩⟩ | ⟨-, ⟨-, he⟩ | ⟨-, -, he⟩ | ⟨-, -, he⟩ | ⟨-, -, he⟩⟩ <;> rw [he]
  case inr.inl => exact h.setLife_ready.conclude hbound
  case inr.inr.inr.inl => exact h.conclude nofun
  case inr.inr.inl | inr.inr.inr.inr => exact h.conclude hbound
  all_goals
    obtain rfl := Option.some.inj (hruns.curOp.symm.trans hop)
    obtain rfl := Option.some.inj (hruns.cmdSel.symm.trans hc)
  · have hcal : s.cal = .calibrating := by simpa [calDuring, hp] using hruns.cal
    exact h.select hop rfl hruns.life hcal
  · exact (h.setCal .calibrating (Option.some.inj hruns.life).symm).select hop rfl hruns.life rfl

end State.PhaseFree

namespace State.Inv

/-! The moves of the sequencer. -/

theorem issueCall (h : s.Inv) : s.issueCall.Inv := { h with call_of_phase := fun _ hcall => hcall }

/-- An answer to the outstanding call moves the block to a state of a run (R25). -/
theorem onAnswer {call : BusCall} {a : Answer} {rest : List Input} (h : s.Inv) (ho : s.outstanding = some call)
    (ha : (s.logAnswer call a rest).onAnswer a = some t) : t.Inv := by
  have hcall : (s.logAnswer call a rest).phaseCall = some call := h.call_of_phase call ho
  have hfree := h.logAnswer_phaseFree ho (answerFits_of_onAnswer hcall ha) rest
  have hruns (hin : s.phase.inCommand = true) : ∃ op c, (s.logAnswer call a rest).Runs op c := by
    obtain ⟨op, c, hr⟩ := h.runs hin
    exact ⟨op, c, { hr with }⟩
  rcases onAnswer_cases ha with ⟨present, hp, rfl, rfl⟩ | ⟨hp, rfl, rfl⟩ | ⟨hp, rfl, rfl⟩ | ⟨hp, rfl, rfl⟩ |
    ⟨hp, rfl, rfl⟩ | ⟨bytes, hp, rfl, rfl⟩
  · obtain ⟨hop, hlife⟩ := h.scan_of_construct hp
    have hcal : s.cal = .uninitialized := by
      cases hc : s.cal with
      | uninitialized => rfl
      | calibrating => exact nomatch (h.calibrating_ready hc).symm.trans hlife
    unfold State.scanAnswered
    split
    · exact hfree.select hop rfl (congrArg some hlife.symm) hcal
    · exact hfree.conclude nofun
  all_goals obtain ⟨op, c, hr⟩ := hruns (by rw [show s.phase = _ from hp]; rfl)
  · exact hfree.enterSettle hr
  · exact hfree.conclude nofun
  · unfold State.sleepReturned
    split
    · exact hfree.commandReturned hr (Nat.zero_le _)
    · exact hfree.enterRead hr ‹_›
  · exact hfree.conclude nofun
  · unfold State.readAnswered
    split
    · exact hfree.enterVerify hr (h.read_has_words hp) ‹_›
    · exact hfree.conclude nofun

/-- The check of a word moves the block to a state of a run (R140, R142). -/
theorem verifyWord (h : s.Inv) (hp : s.phase = .verify) : s.verifyWord.Inv := by
  have hfree := h.phaseFree (h.no_call (by simp [State.phaseCall, hp])) (by simp [hp])
  obtain ⟨op, c, hr⟩ := h.runs (by rw [hp]; rfl)
  obtain ⟨hlen, hidx⟩ := h.verify_whole hp
  have hwords := s.desc.nwords.isLt
  by_cases hgood : wordGood s.params.crc s.rxbuf s.widx.toNat
  · by_cases hmore : s.widx.toNat + 1 < s.desc.nwords.toNat
    · rw [verifyWord_of_good hgood hmore]
      refine { h with verify_whole := fun _ => ⟨hlen, ?_⟩ }
      simp only [State.nextWord_widx, State.setCrc_widx, BitVec.toNat_add]
      exact (Nat.mod_le _ _).trans_lt hmore
    · rw [verifyWord_of_last hgood (by omega)]
      refine (hfree.setCrc s.wordCrc).commandReturned { hr with } ?_
      rw [resultOf_length]
      omega
  · rw [verifyWord_of_bad hgood]
    exact (hfree.setCrc _).conclude nofun

/-- The response is delivered in range (R81, R145). -/
theorem deliver (h : s.Inv) (hp : s.phase = .finish) (hv : s.verdict = some v) : (s.deliver v).Inv := by
  have hresp : respOk (respOf v s.freeCount) := respOf_respOk v _ fun r hr => h.result_bound r (hr ▸ hv)
  refine State.PhaseFree.inv_of_idle (s := s.deliver v) ?_ rfl rfl
  exact { h with
    no_call := h.no_call (by simp [State.phaseCall, hp])
    no_verdict := rfl
    rxbuf_bound := List.length_take_le _ _
    resp_ok := hresp
    responses_ok := List.forall_mem_append.2 ⟨h.responses_ok, List.forall_mem_singleton.2 hresp⟩ }

theorem nextMove (h : s.Inv) (hm : s.nextMove = some t) : t.Inv := by
  rcases nextMove_cases hm with ⟨-, -, rfl⟩ | ⟨call, a, rest, ho, -, ha⟩ | ⟨hp, rfl⟩ | ⟨v, hp, hv, rfl⟩
  · exact h.issueCall
  · exact h.onAnswer ho ha
  · exact h.verifyWord hp
  · exact h.deliver hp hv

/-! What else a step does. -/

/-- An operation accepted at `IDLE` starts in a state of a run (R170 to R184). -/
theorem operationStart {i : Instr} {op : HostOp} {start : State → State} (h : s.Inv)
    (hi : operationStart i = some (op, start)) (hidle : s.phase = .idle)
    (hlife : needsLife op = none ∨ needsLife op = some s.life) : (start (s.begin op)).Inv := by
  have hfree := (h.phaseFree (h.no_call (by simp [State.phaseCall, hidle])) (by simp [hidle])).begin op
  cases i with
  | construct =>
    cases hi
    exact hfree.startScan rfl rfl (by simpa [needsLife, eq_comm] using hlife)
  | identify =>
    cases hi
    exact hfree.select rfl rfl (hlife.resolve_left nofun) trivial
  | selfTest =>
    cases hi
    unfold startSelfTest
    split
    · exact hfree.conclude nofun
    · exact hfree.select rfl rfl (hlife.resolve_left nofun) ‹_›
  | measureAirQuality =>
    cases hi
    have hneeds := hlife.resolve_left nofun
    cases hcal : s.cal with
    | uninitialized =>
      rw [startMeasureAirQuality_of_uninitialized (s := s.begin .measureAirQuality) hcal]
      exact (hfree.setCal _ (Option.some.inj hneeds).symm).select rfl rfl hneeds (calDuring_calAtInit _)
    | calibrating =>
      rw [startMeasureAirQuality_of_calibrating (s := s.begin .measureAirQuality) hcal]
      exact hfree.select rfl rfl hneeds hcal
  | measureRawSignals =>
    cases hi
    exact hfree.select rfl rfl (hlife.resolve_left nofun) trivial
  | checksum data =>
    cases hi
    refine (hfree.setCrc _).conclude ?_
    rintro _ ⟨⟩
    exact Nat.le_of_ble_eq_true rfl
  | _ => cases hi

/-- Reset is a state of a run, the abandoned call an event of the rules (R240). -/
theorem applyReset (h : s.Inv) : s.applyReset.Inv := by
  have habandoned : ∀ e ∈ s.abandonedCall, busEventOk s.params e := by
    cases ho : s.outstanding with
    | none =>
      rw [abandonedCall_of_none ho]
      exact List.forall_mem_nil _
    | some call =>
      rw [abandonedCall_of_some ho]
      exact List.forall_mem_singleton.2 (h.eventOk ho nofun)
  refine State.PhaseFree.inv_of_idle (s := s.applyReset) ?_ rfl rfl
  exact ⟨rfl, rfl, nofun, Nat.zero_le _, respOk_atReset, h.responses_ok,
    List.forall_mem_append.2 ⟨h.log_ok, habandoned⟩⟩

end State.Inv

/-- Settles O36: each move, each acceptance and each input served keeps the invariant. -/
theorem everyStepKeepsTheInvariant : Obligations.EveryStepKeepsTheInvariant := by
  intro s t h hstep
  exact step_keeps (fun _ _ => State.Inv.nextMove) (fun _ _ _ _ h => h.operationStart)
    (fun _ _ h => { h with }) (fun _ => State.Inv.applyReset) (fun _ _ h => { h with }) hstep h

/-- Settles O35: nothing has happened yet, and the registers are in range. -/
theorem theInvariantHoldsAtReset : Obligations.TheInvariantHoldsAtReset := by
  refine State.PhaseFree.inv_of_idle (s := State.reset) ?_ rfl rfl
  exact ⟨rfl, rfl, nofun, Nat.zero_le _, respOk_atReset, nofun, nofun⟩

end Sys2Proof.Machine
end

section
/-! CRCGEN (40_crc8.md): the bit step, the table of R108, and the algebra behind R109 and R110. A bit step keeps XOR
and, with the lowest bit of the polynomial set, loses nothing; the rest follows from these two facts. -/

namespace Sys2Proof

variable {k : CrcParams}

/-! ## The bit step -/

theorem crcBitStep_of_msb {c : Byte} (h : c.msb = true) : crcBitStep k c = (c <<< 1) ^^^ k.poly := if_pos h

theorem crcBitStep_of_not_msb {c : Byte} (h : c.msb = false) : crcBitStep k c = c <<< 1 := if_neg (by simp [h])

/-- What is XORed into both sides of an XOR falls out. -/
theorem xor_xor_xor_cancel_right (a b x : Byte) : a ^^^ x ^^^ (b ^^^ x) = a ^^^ b := by
  have hswap : a ^^^ x ^^^ (b ^^^ x) = a ^^^ b ^^^ (x ^^^ x) := by ac_rfl
  rw [hswap, BitVec.xor_self, BitVec.xor_zero]

/-- A bit step keeps XOR. -/
theorem crcBitStep_xor (k : CrcParams) (a b : Byte) :
    crcBitStep k (a ^^^ b) = crcBitStep k a ^^^ crcBitStep k b := by
  have hshift : (a ^^^ b) <<< 1 = a <<< 1 ^^^ b <<< 1 := BitVec.shiftLeft_xor_distrib a b 1
  cases ha : a.msb <;> cases hb : b.msb
  all_goals simp [crcBitStep, ha, hb, hshift]
  · ac_rfl
  · ac_rfl
  · rw [xor_xor_xor_cancel_right]

theorem crcBitSteps_xor (k : CrcParams) (n : Nat) (a b : Byte) :
    crcBitSteps k n (a ^^^ b) = crcBitSteps k n a ^^^ crcBitSteps k n b := by
  induction n generalizing a b with
  | zero => rfl
  | succ n ih => exact (congrArg (crcBitSteps k n) (crcBitStep_xor k a b)).trans (ih _ _)

@[simp] theorem crcBitSteps_zero (k : CrcParams) (n : Nat) : crcBitSteps k n 0#8 = 0#8 := by
  have h := crcBitSteps_xor k n 0#8 0#8
  simpa using h

/-- With the lowest bit of the polynomial set, only zero steps to zero. -/
theorem crcBitStep_eq_zero (hk : k.poly[0] = true) {c : Byte} (h : crcBitStep k c = 0#8) : c = 0#8 := by
  cases hmsb : c.msb with
  | true =>
    rw [crcBitStep_of_msb hmsb] at h
    have hbit := congrArg (fun b => b.getLsbD 0) h
    simp [hk] at hbit
  | false =>
    rw [crcBitStep_of_not_msb hmsb] at h
    have hlt : c.toNat < 2 ^ 7 := BitVec.toNat_lt_of_msb_false hmsb
    have hshift := congrArg BitVec.toNat h
    apply BitVec.eq_of_toNat_eq
    rw [BitVec.toNat_shiftLeft, Nat.shiftLeft_eq] at hshift
    simp only [BitVec.toNat_ofNat] at hshift ⊢
    omega

theorem crcBitSteps_eq_zero (hk : k.poly[0] = true) {n : Nat} {c : Byte} (h : crcBitSteps k n c = 0#8) :
    c = 0#8 := by
  induction n generalizing c with
  | zero => exact h
  | succ n ih => exact crcBitStep_eq_zero hk (ih h)

theorem crcBitSteps_injective (hk : k.poly[0] = true) (n : Nat) : Function.Injective (crcBitSteps k n) := by
  intro a b h
  have hzero : crcBitSteps k n (a ^^^ b) = 0#8 := by rw [crcBitSteps_xor, h, BitVec.xor_self]
  exact BitVec.xor_eq_zero_iff.1 (crcBitSteps_eq_zero hk hzero)

/-- Settles O52: one branch for each value of the top bit, each cut to a byte. -/
theorem crcBitStepIsShiftAndConditionalXor : Obligations.CrcBitStepIsShiftAndConditionalXor := by
  intro k c
  have hpoly : k.poly.toNat % 2 ^ 8 = k.poly.toNat := Nat.mod_eq_of_lt k.poly.isLt
  have hbit : c.getLsbD 7 = c.msb := (BitVec.msb_eq_getLsbD_last c).symm
  rw [hbit]
  cases hmsb : c.msb with
  | true =>
    rw [crcBitStep_of_msb hmsb, if_pos rfl, show (256 : Nat) = 2 ^ 8 from rfl, Nat.xor_mod_two_pow, hpoly,
      BitVec.toNat_xor, BitVec.toNat_shiftLeft]
  | false => rw [crcBitStep_of_not_msb hmsb, if_neg nofun, BitVec.toNat_shiftLeft]

/-- Settles O53: each byte takes eight steps, after which the counters stand at the next one. -/
theorem bitSerialCrcgenComputesCrc8 : Obligations.BitSerialCrcgenComputesCrc8 := by
  intro k h l
  refine ⟨Machine.crcgen_value k h l, ?_, ?_⟩ <;> rw [Machine.crcgen_eq]

/-! ## The document's polynomial -/

/-- What a byte, once it has entered, becomes under the document's parameters (R103). -/
def docByte : Byte → Byte := crcBitSteps CrcParams.default 8

theorem docByte_xor (a b : Byte) : docByte (a ^^^ b) = docByte a ^^^ docByte b :=
  crcBitSteps_xor CrcParams.default 8 a b

@[simp] theorem docByte_zero : docByte 0#8 = 0#8 := crcBitSteps_zero CrcParams.default 8

theorem docByte_injective : Function.Injective docByte := crcBitSteps_injective (by decide) 8

theorem docByte_surjective : Function.Surjective docByte := Finite.injective_iff_surjective.1 docByte_injective

theorem crc8_doc_eq_foldl (s : List Byte) :
    crc8 CrcParams.default s = s.foldl (fun c b => docByte (c ^^^ b)) 0xFF#8 := by
  rw [crc8, show CrcParams.default.xorOut = 0#8 from rfl, BitVec.xor_zero]
  rfl

/-- The checksum of a word (R100, R103). -/
theorem crc8_doc_word (h l : Byte) : crc8 CrcParams.default [h, l] = docByte (docByte (0xFF#8 ^^^ h) ^^^ l) :=
  crc8_doc_eq_foldl [h, l]

/-- The part of the checksum of a word that no data bit changes is `0x81`. -/
theorem crc8_doc_word_eq (h l : Byte) :
    crc8 CrcParams.default [h, l] = 0x81#8 ^^^ (docByte (docByte h ^^^ l)) := by
  have hinit : docByte (docByte 0xFF#8) = 0x81#8 := by decide +kernel
  rw [crc8_doc_word, docByte_xor 0xFF#8, BitVec.xor_assoc, docByte_xor, hinit]

/-- Settles O54: the table is checked entry by entry, and each byte of a word is one look-up. -/
theorem crcTableComputesCrc8 : Obligations.CrcTableComputesCrc8 := by
  have hlookup : ∀ x : Byte, crcTableAt x = docByte x := by decide +kernel
  refine ⟨by decide +kernel, hlookup, fun h l => ?_⟩
  rw [crc8_doc_word, hlookup, hlookup, BitVec.xor_comm h]

/-- Settles O55: `docByte` keeps XOR and is a bijection, and the checksum of a word is two of it. -/
theorem crcIsAffineAndBijectiveInEachByte : Obligations.CrcIsAffineAndBijectiveInEachByte := by
  refine ⟨fun h l h' l' => ?_, fun h l => ?_, fun h l l' heq => ?_, fun h h' l heq => ?_, fun h k => ?_, fun l k => ?_,
    by decide +kernel, by decide +kernel, by decide +kernel⟩
  · simp only [crc8_doc_word_eq, docByte_xor, BitVec.xor_comm 0x81#8, xor_xor_xor_cancel_right]
    ac_rfl
  · rw [crc8_doc_eq_foldl, crc8_doc_word]
    simp
  · rw [crc8_doc_word, crc8_doc_word] at heq
    simpa using docByte_injective heq
  · rw [crc8_doc_word, crc8_doc_word] at heq
    simpa using docByte_injective ((BitVec.xor_left_inj l).1 (docByte_injective heq))
  · obtain ⟨y, rfl⟩ := docByte_surjective k
    refine ⟨docByte (0xFF#8 ^^^ h) ^^^ y, ?_⟩
    rw [crc8_doc_word, ← BitVec.xor_assoc, BitVec.xor_self, BitVec.zero_xor]
  · obtain ⟨y, rfl⟩ := docByte_surjective k
    obtain ⟨z, hz⟩ := docByte_surjective (y ^^^ l)
    refine ⟨0xFF#8 ^^^ z, ?_⟩
    rw [crc8_doc_word, ← BitVec.xor_assoc, BitVec.xor_self, BitVec.zero_xor, hz, BitVec.xor_assoc, BitVec.xor_self,
      BitVec.xor_zero]

end Sys2Proof
end

section
/-! What verification detects (40_crc8.md R110). A bit pattern is the XOR of its single bits, and the syndrome keeps
XOR, so each class of errors comes down to the syndromes of the 24 single bits. -/

namespace Sys2Proof

/-! ## A pattern from its bits -/

/-- The pattern with exactly the bits `l` set, each once. -/
def bitsOf (l : List Nat) : BitVec 24 := l.foldr (fun i e => BitVec.twoPow 24 i ^^^ e) 0#24

/-- The bits a pattern has set. -/
def setBits (e : BitVec 24) : List Nat := (List.range 24).filter fun i => e.getLsbD i

@[simp] theorem mem_setBits {e : BitVec 24} {i : Nat} : i ∈ setBits e ↔ e.getLsbD i = true := by
  simp only [setBits, List.mem_filter, List.mem_range, and_iff_right_iff_imp]
  exact fun h => BitVec.lt_of_getLsbD h

theorem getLsbD_bitsOf {l : List Nat} (hl : l.Nodup) {j : Nat} (hj : j < 24) :
    (bitsOf l).getLsbD j = decide (j ∈ l) := by
  induction l with
  | nil => simp [bitsOf]
  | cons i l ih =>
    obtain ⟨hi, hl⟩ := List.nodup_cons.1 hl
    have hrest : (bitsOf (i :: l)).getLsbD j = ((BitVec.twoPow 24 i).getLsbD j ^^ decide (j ∈ l)) := by
      rw [← ih hl, ← BitVec.getLsbD_xor]
      rfl
    rw [hrest, BitVec.getLsbD_twoPow]
    by_cases hij : i = j
    · subst hij
      simp [hi, hj]
    · simp [hij, Ne.symm hij]

theorem nodup_setBits (e : BitVec 24) : (setBits e).Nodup := List.nodup_range.filter _

theorem lt_of_mem_setBits {e : BitVec 24} {i : Nat} (h : i ∈ setBits e) : i < 24 :=
  BitVec.lt_of_getLsbD (mem_setBits.1 h)

/-- A pattern is made up of the bits it has set. -/
theorem bitsOf_setBits (e : BitVec 24) : bitsOf (setBits e) = e := by
  apply BitVec.eq_of_getLsbD_eq
  intro j hj
  rw [getLsbD_bitsOf (nodup_setBits e) hj]
  simp

theorem patternWeight_eq_length (e : BitVec 24) : Machine.patternWeight e = (setBits e).length :=
  List.countP_eq_length_filter

/-! ## The syndrome -/

/-- The syndrome of an error pattern: what it adds to the checksum a word is compared with. -/
def syndrome (e : BitVec 24) : Byte :=
  docByte (docByte (e.extractLsb' 16 8) ^^^ e.extractLsb' 8 8) ^^^ e.extractLsb' 0 8

theorem syndrome_xor (a b : BitVec 24) : syndrome (a ^^^ b) = syndrome a ^^^ syndrome b := by
  simp only [syndrome, BitVec.extractLsb'_xor, docByte_xor]
  ac_rfl

@[simp] theorem syndrome_zero : syndrome 0#24 = 0#8 := by simp [syndrome]

/-- A word is valid when its syndrome is the fixed part of the checksum (R107). -/
theorem wordValid_iff (w : BitVec 24) : Machine.wordValid w = true ↔ syndrome w = 0x81#8 := by
  rw [Machine.wordValid, decide_eq_true_eq, crc8_doc_word_eq, syndrome, ← BitVec.xor_left_inj (w.extractLsb' 0 8),
    BitVec.xor_self, BitVec.xor_assoc, BitVec.xor_eq_zero_iff, eq_comm]

/-- An error pattern on a valid word is detected when its syndrome is not zero. -/
theorem wordValid_xor_eq_false {w e : BitVec 24} (hw : Machine.wordValid w = true) (he : syndrome e ≠ 0#8) :
    Machine.wordValid (w ^^^ e) = false := by
  rw [Bool.eq_false_iff, ne_eq, wordValid_iff, syndrome_xor, (wordValid_iff w).1 hw]
  intro h
  exact he (by simpa using congrArg (0x81#8 ^^^ ·) h)

/-! ## Odd weight -/

/-- Whether a byte has an odd number of bits set. -/
def oddBits (x : Byte) : Bool := (List.range 8).foldr (fun i odd => x.getLsbD i ^^ odd) false

theorem oddBits_xor (a b : Byte) : oddBits (a ^^^ b) = (oddBits a ^^ oddBits b) := by
  unfold oddBits
  induction List.range 8 with
  | nil => rfl
  | cons i l ih =>
    rw [List.foldr_cons, List.foldr_cons, List.foldr_cons, ih, BitVec.getLsbD_xor, Bool.xor_assoc,
      Bool.xor_left_comm (b.getLsbD i), ← Bool.xor_assoc]

/-- The syndrome has as many bits set as the pattern, up to an even number: the polynomial has `x + 1` as a factor. -/
theorem oddBits_syndrome_bitsOf {l : List Nat} (hl : ∀ i ∈ l, i < 24) :
    oddBits (syndrome (bitsOf l)) = decide (l.length % 2 = 1) := by
  have hsingle : ∀ i < 24, oddBits (syndrome (BitVec.twoPow 24 i)) = true := by decide +kernel
  induction l with
  | nil =>
    rw [bitsOf, List.foldr_nil, syndrome_zero]
    rfl
  | cons i l ih =>
    obtain ⟨hi, hl⟩ := List.forall_mem_cons.1 hl
    rw [bitsOf, List.foldr_cons, syndrome_xor, oddBits_xor, hsingle i hi, ← bitsOf, ih hl, List.length_cons,
      Bool.true_xor, ← decide_not]
    congr 1
    rw [eq_iff_iff]
    omega

theorem syndrome_ne_zero_of_odd {e : BitVec 24} (h : Machine.patternWeight e % 2 = 1) : syndrome e ≠ 0#8 := by
  intro hzero
  have hodd := oddBits_syndrome_bitsOf (l := setBits e) fun _ => lt_of_mem_setBits
  rw [bitsOf_setBits, hzero, ← patternWeight_eq_length, h] at hodd
  exact absurd hodd (by decide)

/-! ## Weight 2 -/

/-- No two single bits have the same syndrome: the order of `x` modulo the polynomial is above 23. -/
theorem syndrome_twoPow_ne : ∀ i < 24, ∀ j < 24, i ≠ j →
    syndrome (BitVec.twoPow 24 i) ≠ syndrome (BitVec.twoPow 24 j) := by
  decide +kernel

theorem syndrome_ne_zero_of_two {e : BitVec 24} (h : Machine.patternWeight e = 2) : syndrome e ≠ 0#8 := by
  obtain ⟨i, j, hij⟩ := List.length_eq_two.1 ((patternWeight_eq_length e).symm.trans h)
  have hlt (m : Nat) (hm : m ∈ setBits e) : m < 24 := lt_of_mem_setBits hm
  have hne : i ≠ j := by
    simpa [hij] using nodup_setBits e
  have he : syndrome e = syndrome (BitVec.twoPow 24 i) ^^^ syndrome (BitVec.twoPow 24 j) := by
    rw [← bitsOf_setBits e, hij, ← syndrome_xor]
    simp [bitsOf]
  rw [he, ne_eq, BitVec.xor_eq_zero_iff]
  exact syndrome_twoPow_ne i (hlt i (by simp [hij])) j (hlt j (by simp [hij])) hne

/-! ## Bursts -/

/-- Moving a pattern of the lowest byte up by `i` places makes `i` bit steps of its syndrome. -/
theorem syndrome_bitsOf_shiftLeft {l : List Nat} (hl : ∀ j ∈ l, j < 8) {i : Nat} (hi : i < 17) :
    syndrome (bitsOf l <<< i) = crcBitSteps CrcParams.default i (syndrome (bitsOf l)) := by
  have hsingle : ∀ i < 17, ∀ j < 8, syndrome (BitVec.twoPow 24 j <<< i)
      = crcBitSteps CrcParams.default i (syndrome (BitVec.twoPow 24 j)) := by decide +kernel
  induction l with
  | nil => simp [bitsOf]
  | cons j l ih =>
    obtain ⟨hj, hl⟩ := List.forall_mem_cons.1 hl
    rw [bitsOf, List.foldr_cons, ← bitsOf, BitVec.shiftLeft_xor_distrib, syndrome_xor, hsingle i hi j hj, ih hl,
      syndrome_xor, crcBitSteps_xor]

/-- The bits of a number below 256 are in the lowest byte. -/
theorem setBits_lt_eight {b : BitVec 24} (hb : b.toNat < 256) : ∀ j ∈ setBits b, j < 8 := by
  intro j hj
  by_contra hge
  have hbit : b.toNat.testBit j = true := mem_setBits.1 hj
  have hpow : 2 ^ 8 ≤ 2 ^ j := Nat.pow_le_pow_right (by omega) (by omega)
  have := Nat.ge_two_pow_of_testBit hbit
  omega

/-- A pattern of the lowest byte is its own syndrome. -/
theorem syndrome_toNat_of_lt {b : BitVec 24} (hb : b.toNat < 256) : (syndrome b).toNat = b.toNat := by
  have hhi : b.extractLsb' 16 8 = 0#8 := by
    apply BitVec.eq_of_toNat_eq
    simp only [BitVec.extractLsb'_toNat, Nat.shiftRight_eq_div_pow, BitVec.toNat_ofNat]
    omega
  have hmid : b.extractLsb' 8 8 = 0#8 := by
    apply BitVec.eq_of_toNat_eq
    simp only [BitVec.extractLsb'_toNat, Nat.shiftRight_eq_div_pow, BitVec.toNat_ofNat]
    omega
  simp only [syndrome, hhi, hmid, docByte_zero, BitVec.xor_self, BitVec.zero_xor, BitVec.extractLsb'_toNat,
    Nat.shiftRight_zero]
  omega

theorem syndrome_ne_zero_of_burst {b : BitVec 24} {i : Nat} (hb : b ≠ 0#24) (hlow : b.toNat < 256) (hi : i ≤ 16) :
    syndrome (b <<< i) ≠ 0#8 := by
  have hsteps := syndrome_bitsOf_shiftLeft (setBits_lt_eight hlow) (Nat.lt_succ_of_le hi)
  rw [bitsOf_setBits] at hsteps
  intro hzero
  have hsyndrome : syndrome b = 0#8 := crcBitSteps_eq_zero (by decide) (hsteps.symm.trans hzero)
  exact hb (BitVec.eq_of_toNat_eq (by rw [← syndrome_toNat_of_lt hlow, hsyndrome]; rfl))

/-- Settles O56: in each of the three classes the syndrome of the error is not zero. -/
theorem crcDetectsOddDoubleAndBurstErrors : Obligations.CrcDetectsOddDoubleAndBurstErrors := by
  intro w e hw he
  apply wordValid_xor_eq_false hw
  rcases he with hodd | htwo | ⟨i, b, hb, hlow, hi, rfl⟩
  · exact syndrome_ne_zero_of_odd hodd
  · exact syndrome_ne_zero_of_two htwo
  · exact syndrome_ne_zero_of_burst hb hlow hi

end Sys2Proof
end

section
/-! What a step leaves as it was. `State.LeadsTo` says it once of the moves of the sequencer in a row, `State.Serves`
of what a step does before them; the frames and the safety statements are read off the two. -/

namespace Sys2Proof.Machine

variable {s t u : State} {call : BusCall} {a : Answer} {rest : List Input} {i : Instr} {op : HostOp}
  {start : State → State}

/-! ## The moves of the sequencer -/

/-- From `s` to `t` nothing is delivered and the block is not newly at `IDLE`, or one response is delivered, which the
registers hold at `IDLE` (R31, R145). -/
def State.Answered (s t : State) : Prop :=
  (t.responses = s.responses ∧ t.resp = s.resp ∧ t.respValid = s.respValid ∧ (t.phase = .idle → s.phase = .idle)) ∨
  (t.responses = s.responses ++ [t.resp] ∧ t.respValid = true ∧ t.phase = .idle)

/-- What any number of moves of the sequencer leave of `s` in `t`. -/
structure State.LeadsTo (s t : State) : Prop where
  reads : t.statusReads = s.statusReads
  log : s.busLog <+: t.busLog
  inputs : t.inputs <:+ s.inputs
  idle : s.phase = .idle → t.phase = .idle
  curOp : t.phase ≠ .idle → t.curOp = s.curOp
  cal : s.cal = .calibrating → t.cal = .calibrating
  life : t.life = s.life ∨ (s.phase ≠ .idle ∧ s.curOp = some .construct ∧ t.life = .ready)
  answered : s.Answered t

namespace State.LeadsTo

theorem refl (s : State) : s.LeadsTo s :=
  ⟨rfl, List.prefix_rfl, List.suffix_rfl, id, fun _ => rfl, id, .inl rfl, .inl ⟨rfl, rfl, rfl, id⟩⟩

/-- The block moves on only from a phase that is not `IDLE`, so one response at most is delivered on the way. -/
theorem trans (h : s.LeadsTo t) (h' : t.LeadsTo u) (hphase : t.phase ≠ .idle) : s.LeadsTo u where
  reads := h'.reads.trans h.reads
  log := h.log.trans h'.log
  inputs := h'.inputs.trans h.inputs
  idle := h'.idle ∘ h.idle
  curOp := fun hu => (h'.curOp hu).trans (h.curOp hphase)
  cal := h'.cal ∘ h.cal
  life := by
    rcases h'.life with hlife | ⟨-, hop, hlife⟩
    · rw [hlife]
      exact h.life
    · exact .inr ⟨mt h.idle hphase, (h.curOp hphase).symm.trans hop, hlife⟩
  answered := by
    rcases h.answered with ⟨hr, hresp, hvalid, -⟩ | ⟨-, -, hidle⟩
    · rcases h'.answered with ⟨hr', hresp', hvalid', hidle'⟩ | ⟨hr', hvalid', hidle'⟩
      · exact .inl ⟨hr'.trans hr, hresp'.trans hresp, hvalid'.trans hvalid, fun hu => absurd (hidle' hu) hphase⟩
      · exact .inr ⟨hr'.trans (by rw [hr]), hvalid', hidle'⟩
    · exact absurd hidle hphase

/-! A move changes the phase, or stays in one that is not `IDLE`; what it changes beside is one lemma each. -/

/-- A change of the working registers only, which does not lead to `IDLE`. -/
theorem of_working (hs : s.phase ≠ .idle) (ht : t.phase ≠ .idle) (hreads : t.statusReads = s.statusReads)
    (hlog : t.busLog = s.busLog) (hin : t.inputs = s.inputs) (hop : t.curOp = s.curOp) (hcal : t.cal = s.cal)
    (hlife : t.life = s.life)
    (hresp : t.responses = s.responses ∧ t.resp = s.resp ∧ t.respValid = s.respValid) : s.LeadsTo t where
  reads := hreads
  log := hlog ▸ List.prefix_rfl
  inputs := hin ▸ List.suffix_rfl
  idle := fun h => absurd h hs
  curOp := fun _ => hop
  cal := fun h => hcal.trans h
  life := .inl hlife
  answered := .inl ⟨hresp.1, hresp.2.1, hresp.2.2, fun h => absurd h ht⟩

theorem conclude (hs : s.phase ≠ .idle) (v : Verdict) : s.LeadsTo (s.conclude v) :=
  of_working hs nofun rfl rfl rfl rfl rfl rfl ⟨rfl, rfl, rfl⟩

theorem select (hs : s.phase ≠ .idle) (c : Command) : s.LeadsTo (s.select c) :=
  of_working hs nofun rfl rfl rfl rfl rfl rfl ⟨rfl, rfl, rfl⟩

theorem setCrc (hs : s.phase ≠ .idle) (r : CrcRegs) : s.LeadsTo (s.setCrc r) :=
  of_working hs hs rfl rfl rfl rfl rfl rfl ⟨rfl, rfl, rfl⟩

theorem deliver (s : State) (v : Verdict) : s.LeadsTo (s.deliver v) where
  reads := rfl
  log := List.prefix_rfl
  inputs := List.suffix_rfl
  idle := fun _ => rfl
  curOp := fun h => absurd rfl h
  cal := id
  life := .inl rfl
  answered := .inr ⟨rfl, rfl, rfl⟩

theorem logAnswer (hin : s.inputs = .answer a :: rest) :
    s.LeadsTo (s.logAnswer call a rest) :=
  { refl s with
    log := List.prefix_append _ _
    inputs := hin ▸ List.suffix_cons _ _ }

theorem setCal_calibrating (s : State) : s.LeadsTo (s.setCal .calibrating) :=
  { refl s with cal := fun _ => rfl }

theorem setLife_ready (hs : s.phase ≠ .idle) (hop : s.curOp = some .construct) : s.LeadsTo (s.setLife .ready) :=
  { refl s with life := .inr ⟨hs, hop, rfl⟩ }

theorem commandReturned (hs : s.phase ≠ .idle) (r : List Byte) : s.LeadsTo (s.commandReturned r) := by
  rcases commandReturned_cases r s with
    ⟨-, -, ⟨-, he⟩ | ⟨-, he⟩⟩ | ⟨-, ⟨hop, he⟩ | ⟨-, -, he⟩ | ⟨-, -, he⟩ | ⟨-, -, he⟩⟩ <;> rw [he]
  · exact select hs _
  · exact (setCal_calibrating s).trans (select (s := s.setCal .calibrating) hs _) hs
  · exact (setLife_ready hs hop).trans (conclude (s := s.setLife .ready) hs _) hs
  all_goals exact conclude hs _

theorem scanAnswered (hs : s.phase ≠ .idle) (present : List BusAddr) : s.LeadsTo (s.scanAnswered present) := by
  unfold State.scanAnswered
  split
  · exact select hs _
  · exact conclude hs _

theorem sleepReturned (hs : s.phase ≠ .idle) : s.LeadsTo s.sleepReturned := by
  unfold State.sleepReturned
  split
  · exact commandReturned hs _
  · exact of_working hs nofun rfl rfl rfl rfl rfl rfl ⟨rfl, rfl, rfl⟩

theorem readAnswered (hs : s.phase ≠ .idle) (bytes : List Byte) : s.LeadsTo (s.readAnswered bytes) := by
  unfold State.readAnswered
  split
  · exact of_working hs nofun rfl rfl rfl rfl rfl rfl ⟨rfl, rfl, rfl⟩
  · exact conclude hs _

theorem verifyWord (hs : s.phase ≠ .idle) : s.LeadsTo s.verifyWord := by
  unfold State.verifyWord
  dsimp only
  refine (setCrc hs s.wordCrc).trans ?_ hs
  split
  · split
    · exact of_working hs hs rfl rfl rfl rfl rfl rfl ⟨rfl, rfl, rfl⟩
    · exact commandReturned (s := s.setCrc s.wordCrc) hs _
  · exact conclude (s := s.setCrc s.wordCrc) hs _

theorem onAnswer (hs : s.phase ≠ .idle) (ha : s.onAnswer a = some t) : s.LeadsTo t := by
  rcases onAnswer_cases ha with ⟨present, -, -, rfl⟩ | ⟨-, -, rfl⟩ | ⟨-, -, rfl⟩ | ⟨-, -, rfl⟩ | ⟨-, -, rfl⟩ |
    ⟨bytes, -, -, rfl⟩
  · exact scanAnswered hs present
  · exact of_working hs nofun rfl rfl rfl rfl rfl rfl ⟨rfl, rfl, rfl⟩
  · exact conclude hs _
  · exact sleepReturned hs
  · exact conclude hs _
  · exact readAnswered hs bytes

end State.LeadsTo

/-- At `IDLE` the sequencer does not move (R25). -/
theorem phase_ne_idle_of_nextMove (h : s.nextMove = some t) : s.phase ≠ .idle := by
  intro hidle
  simp [State.nextMove, hidle] at h

namespace State.LeadsTo

theorem nextMove (h : s.nextMove = some t) : s.LeadsTo t := by
  have hs := phase_ne_idle_of_nextMove h
  rcases nextMove_cases h with ⟨-, -, rfl⟩ | ⟨call, a, rest, -, hin, ha⟩ | ⟨-, rfl⟩ | ⟨v, -, -, rfl⟩
  · exact of_working hs hs rfl rfl rfl rfl rfl rfl ⟨rfl, rfl, rfl⟩
  · exact (logAnswer (call := call) hin).trans (onAnswer hs ha) hs
  · exact verifyWord hs
  · exact deliver s v

/-- What holds of the moves of the sequencer so far holds with the next one. -/
theorem keeps (s t u : State) (h : s.LeadsTo t) (hmove : t.nextMove = some u) : s.LeadsTo u :=
  h.trans (nextMove hmove) (phase_ne_idle_of_nextMove hmove)

theorem runOperation (s : State) : s.LeadsTo s.runOperation := runOperation_keeps (keeps s) (refl s)

theorem runCommand (s : State) : s.LeadsTo s.runCommand := runCommand_keeps (keeps s) (refl s)

theorem moveOnce (s : State) : s.LeadsTo s.moveOnce := moveOnce_keeps (keeps s) (refl s)

end State.LeadsTo

/-! ## What a step does before the moves -/

/-- `u` is where operation `op`, accepted in `s`, starts: out of `IDLE`, with nothing shown or done yet. -/
structure State.Starts (op : HostOp) (s u : State) : Prop where
  phase : u.phase ≠ .idle
  curOp : u.curOp = some op
  reads : u.statusReads = s.statusReads
  log : u.busLog = s.busLog
  inputs : u.inputs = s.inputs
  life : u.life = s.life
  cal : s.cal = .calibrating → u.cal = .calibrating
  cal_of_other : op ≠ .measureAirQuality → u.cal = s.cal
  cmdSel_of_other : op ≠ .measureAirQuality → u.cmdSel ≠ some .initAirQuality
  responses : u.responses = s.responses
  resp : u.resp = s.resp
  respValid : u.respValid = s.respValid

/-- Every operation starts so (R170, R173, R175, R178, R183, R112). -/
theorem operationStart_starts (h : operationStart i = some (op, start)) : s.Starts op (start (s.begin op)) := by
  have hselect (op : HostOp) (c : Command) (hc : op ≠ .measureAirQuality → c ≠ .initAirQuality) :
      s.Starts op ((s.begin op).select c) :=
    ⟨nofun, rfl, rfl, rfl, rfl, rfl, id, fun _ => rfl, fun ho h => hc ho (Option.some.inj h), rfl, rfl, rfl⟩
  cases i with
  | construct => cases h; exact ⟨nofun, rfl, rfl, rfl, rfl, rfl, id, fun _ => rfl, nofun, rfl, rfl, rfl⟩
  | identify => cases h; exact hselect _ _ nofun
  | selfTest =>
    cases h
    unfold startSelfTest
    split
    · exact ⟨nofun, rfl, rfl, rfl, rfl, rfl, id, fun _ => rfl, nofun, rfl, rfl, rfl⟩
    · exact hselect _ _ nofun
  | measureAirQuality =>
    cases h
    unfold startMeasureAirQuality
    split
    · exact ⟨nofun, rfl, rfl, rfl, rfl, rfl, fun _ => rfl, fun h => absurd rfl h, fun h => absurd rfl h, rfl, rfl, rfl⟩
    · exact hselect _ _ fun h => absurd rfl h
    · exact hselect _ _ nofun
  | measureRawSignals => cases h; exact hselect _ _ nofun
  | checksum data => cases h; exact ⟨nofun, rfl, rfl, rfl, rfl, rfl, id, fun _ => rfl, nofun, rfl, rfl, rfl⟩
  | _ => cases h

/-- An instruction that goes on starts its operation, or goes on with the selected command, and then moves. -/
theorem exec_leadsTo (h : exec i s = .next t) :
    (∃ op start u, operationStart i = some (op, start) ∧ s.phase = .idle ∧ s.Starts op u ∧
      u.LeadsTo t) ∨
    (∃ c, i = .ofCommand c ∧ s.readyCommand = some c ∧ s.LeadsTo t) := by
  rcases exec_cases h with ⟨op, start, ho, hidle, -, rfl⟩ | ⟨c, rfl, hready, rfl⟩
  · exact .inl ⟨op, start, _, ho, hidle, operationStart_starts ho, .runOperation _⟩
  · exact .inr ⟨c, rfl, hready, .runCommand s⟩

/-- What a step that is no reset has done of `s` when the moves begin in `u`: it has taken an input, shown a status
output or accepted an operation. -/
structure State.Serves (s u : State) : Prop where
  log : u.busLog = s.busLog
  life : u.life = s.life
  cal : s.cal = .calibrating → u.cal = .calibrating
  responses : u.responses = s.responses
  resp : u.resp = s.resp
  respValid : u.respValid = s.respValid
  origin : (u.phase = s.phase ∧ u.curOp = s.curOp) ∨
    (s.phase = .idle ∧ ∃ w rest i op start, s.inputs = .request w :: rest ∧ decodeHostReq w = .ok i ∧
      operationStart i = some (op, start) ∧ u.curOp = some op)

/-- A step that is no reset serves the outside and then moves. -/
theorem step_leadsTo (h : step s = .next t) (hreset : ¬ s.resetFirst) : ∃ u, s.Serves u ∧ u.LeadsTo t := by
  have hself : s.Serves s := ⟨rfl, rfl, id, rfl, rfl, rfl, .inl ⟨rfl, rfl⟩⟩
  have htake (rest : List Input) : s.Serves (s.takeInput rest) := { hself with }
  rcases step_cases h with ⟨rest, hin, -⟩ | ⟨w, rest, i, hin, hd, he⟩ | ⟨r, rest, v, -, -, rfl⟩ | ⟨rest, -, rfl⟩ |
    ⟨-, ⟨c, -, rfl⟩ | ⟨-, ⟨u, -, rfl⟩ | ⟨-, -, ht⟩ | ⟨i, rest, -, -, rfl⟩⟩⟩
  · exact absurd ⟨rest, hin⟩ hreset
  · rcases exec_leadsTo he with ⟨op, start, u, ho, hidle, hu, hlead⟩ | ⟨c, -, -, hlead⟩
    · exact ⟨u, ⟨hu.log, hu.life, hu.cal, hu.responses, hu.resp, hu.respValid,
        .inr ⟨hidle, w, rest, i, op, start, hin, hd, ho, hu.curOp⟩⟩, hlead⟩
    · exact ⟨_, htake rest, hlead⟩
  · exact ⟨(s.takeInput rest).showStatus v, { htake rest with }, .refl _⟩
  · exact ⟨_, htake rest, .moveOnce _⟩
  · exact ⟨s, hself, .runCommand s⟩
  · exact ⟨s, hself, .runCommand s⟩
  · exact ⟨s, hself, ht ▸ .refl s⟩
  · exact ⟨_, htake rest, .refl _⟩

/-! ## What no step but a reset does -/

/-- Settles O38: neither what a step serves nor its moves set `CAL` back. -/
theorem onlyResetReturnsCalToUninitialized : Obligations.OnlyResetReturnsCalToUninitialized := by
  intro s t h hreset hcal
  obtain ⟨u, hu, hlead⟩ := step_leadsTo h hreset
  exact hlead.cal (hu.cal hcal)

/-- Settles O41: the response clause of the moves, from a state with the registers of `s`. -/
theorem responseRegistersChangeOnDeliveryOnly : Obligations.ResponseRegistersChangeOnDeliveryOnly := by
  intro s t h hreset
  obtain ⟨u, hu, hlead⟩ := step_leadsTo h hreset
  rw [← hu.responses, ← hu.resp, ← hu.respValid]
  rcases hlead.answered with ⟨hr, hresp, hvalid, -⟩ | hdelivered
  · exact .inl ⟨hr, hresp, hvalid⟩
  · exact .inr hdelivered

/-- Settles O42: a reset adds the abandoned call, every other step what its moves add. -/
theorem theBusHistoryIsOnlyExtended : Obligations.TheBusHistoryIsOnlyExtended := by
  intro s t h
  by_cases hreset : s.resetFirst
  · obtain ⟨rest, hin⟩ := hreset
    have ht : step s = .next (s.takeInput rest).applyReset := by simp [step, hin]
    cases h.symm.trans ht
    exact List.prefix_append _ _
  · obtain ⟨u, hu, hlead⟩ := step_leadsTo h hreset
    exact hu.log ▸ hlead.log

/-- Only the instruction `construct` asks for CONSTRUCT. -/
theorem eq_construct_of_operationStart (h : operationStart i = some (.construct, start)) : i = .construct := by
  cases i <;> cases h
  rfl

/-- The word of CONSTRUCT is 0 (R80). -/
theorem eq_zero_of_decodes_construct {w : ReqWord} (h : decodeHostReq w = .ok .construct) : w = 0x00000#20 :=
  (Frame.hostReq.inj (aDecodedFrameIsItsEncoding Params.default (.hostReq w) .construct h)).symm

/-- Settles O39: the moves set `LIFE` only in CONSTRUCT, which was running or is accepted in this step. -/
theorem onlyConstructSetsLifeAndOnlyResetClearsIt : Obligations.OnlyConstructSetsLifeAndOnlyResetClearsIt := by
  intro s t h hreset
  obtain ⟨u, hu, hlead⟩ := step_leadsTo h hreset
  constructor
  · intro hlife
    rcases hlead.life with hkept | ⟨-, -, hready⟩
    · exact hkept.trans (hu.life.trans hlife)
    · exact hready
  · intro _ hlife hready
    rcases hlead.life with hkept | ⟨hphase, hop, -⟩
    · exact nomatch hready.symm.trans (hkept.trans (hu.life.trans hlife))
    · rcases hu.origin with ⟨hp, hcur⟩ | ⟨hidle, w, rest, i, op, start, hin, hd, ho, hcur⟩
      · exact .inl ⟨hcur.symm.trans hop, hp ▸ hphase⟩
      · obtain rfl := Option.some.inj (hcur.symm.trans hop)
        obtain rfl := eq_construct_of_operationStart ho
        exact .inr ⟨hidle, rest, eq_zero_of_decodes_construct hd ▸ hin⟩

/-! ## Where no init command is selected -/

/-- The init command is not selected, `CAL` is `cal` and the history stands at `log`. -/
structure State.PastInit (cal : Cal) (log : List BusEvent) (s : State) : Prop where
  cmdSel : s.cmdSel ≠ some .initAirQuality
  cal : s.cal = cal
  busLog : s.busLog = log

namespace State.PastInit

variable {cal : Cal} {log : List BusEvent}

theorem select (h : s.PastInit cal log) {c : Command} (hc : c ≠ .initAirQuality) : (s.select c).PastInit cal log :=
  ⟨fun he => hc (Option.some.inj he), h.cal, h.busLog⟩

theorem commandReturned (h : s.PastInit cal log) (r : List Byte) : (s.commandReturned r).PastInit cal log := by
  rcases commandReturned_cases r s with
    ⟨-, hinit, -⟩ | ⟨-, ⟨-, he⟩ | ⟨-, -, he⟩ | ⟨-, -, he⟩ | ⟨-, -, he⟩⟩
  · exact absurd hinit h.cmdSel
  all_goals rw [he]; exact { h with }

/-- An answer taken, the history is the one with its event and nothing else has been added. -/
theorem onAnswer (h : s.PastInit cal log) (ha : s.onAnswer a = some t) : t.PastInit cal log := by
  rcases onAnswer_cases ha with ⟨present, -, -, rfl⟩ | ⟨-, -, rfl⟩ | ⟨-, -, rfl⟩ | ⟨-, -, rfl⟩ | ⟨-, -, rfl⟩ |
    ⟨bytes, -, -, rfl⟩
  · unfold State.scanAnswered
    split
    · exact h.select nofun
    · exact { h with }
  · exact { h with }
  · exact { h with }
  · unfold State.sleepReturned
    split
    · exact h.commandReturned _
    · exact { h with }
  · exact { h with }
  · unfold State.readAnswered
    split <;> exact { h with }

theorem verifyWord (h : s.PastInit cal log) : s.verifyWord.PastInit cal log := by
  unfold State.verifyWord
  dsimp only
  split
  · split
    · exact { h with }
    · exact commandReturned (s := s.setCrc s.wordCrc) { h with } _
  · exact { h with }

/-- No move selects the init command or changes `CAL`, and one that adds to the history adds the outstanding call. -/
theorem nextMove (h : s.PastInit cal log) (hm : s.nextMove = some t) :
    t.PastInit cal log ∨
      ∃ call a, s.outstanding = some call ∧ t.PastInit cal (log ++ [{ call := call, answer := some a }]) := by
  rcases nextMove_cases hm with ⟨-, -, rfl⟩ | ⟨call, a, rest, ho, -, ha⟩ | ⟨-, rfl⟩ | ⟨v, -, -, rfl⟩
  · exact .inl { h with }
  · exact .inr ⟨call, a, ho, onAnswer (s := s.logAnswer call a rest)
      ⟨h.cmdSel, h.cal, by rw [State.logAnswer_busLog, h.busLog]⟩ ha⟩
  · exact .inl h.verifyWord
  · exact .inl ⟨nofun, h.cal, h.busLog⟩

theorem keeps_cal (s t : State) (h : s.PastInit cal s.busLog) (hm : s.nextMove = some t) : t.PastInit cal t.busLog := by
  rcases h.nextMove hm with ht | ⟨call, a, -, ht⟩
  all_goals exact ⟨ht.cmdSel, ht.cal, rfl⟩

end State.PastInit

/-! ## The frame of an instruction -/

/-- CONSTRUCT runs GET_SERIAL_ID only (R83). -/
theorem eq_getSerialId_of_runsCommand {c : Command} (h : runsCommand .construct c = true) : c = .getSerialId := by
  cases c with
  | getSerialId => rfl
  | _ => cases h

/-- A selected command but GET_SERIAL_ID is not one of CONSTRUCT. -/
theorem State.Inv.curOp_ne_construct {c : Command} (h : s.Inv) (hready : s.readyCommand = some c)
    (hc : c ≠ .getSerialId) : s.curOp ≠ some .construct := by
  obtain ⟨hphase, -, hsel⟩ := readyCommand_eq_some.1 hready
  obtain ⟨op, c', hr⟩ := h.runs (by rw [hphase]; rfl)
  intro hop
  obtain rfl := Option.some.inj (hr.curOp.symm.trans hop)
  obtain rfl := Option.some.inj (hr.cmdSel.symm.trans hsel)
  exact hc (eq_getSerialId_of_runsCommand hr.runs)

/-- The moves of an instruction set `LIFE` only in CONSTRUCT or its GET_SERIAL_ID (R172). -/
theorem exec_life (hinv : s.Inv) (h : exec i s = .next t) (hi : i ≠ .construct)
    (hcmd : ¬ (i = .cmdGetSerialId ∧ s.curOp = some .construct)) : t.life = s.life := by
  rcases exec_leadsTo h with ⟨op, start, u, ho, -, hu, hlead⟩ | ⟨c, rfl, hready, hlead⟩
  · rcases hlead.life with hkept | ⟨-, hop, -⟩
    · exact hkept.trans hu.life
    · obtain rfl := Option.some.inj (hu.curOp.symm.trans hop)
      exact absurd (eq_construct_of_operationStart ho) hi
  · rcases hlead.life with hkept | ⟨-, hop, -⟩
    · exact hkept
    · by_cases hc : c = .getSerialId
      · exact absurd ⟨congrArg Instr.ofCommand hc, hop⟩ hcmd
      · exact absurd hop (hinv.curOp_ne_construct hready hc)

/-- Only the instruction `measure_air_quality` asks for MEASURE_AIR_QUALITY. -/
theorem eq_measureAirQuality_of_operationStart (h : operationStart i = some (.measureAirQuality, start)) :
    i = .measureAirQuality := by
  cases i <;> cases h
  rfl

/-- `CAL` is moved by MEASURE_AIR_QUALITY and its init command only (R179). -/
theorem exec_cal (h : exec i s = .next t) (hi : i ≠ .measureAirQuality) (hcmd : i ≠ .cmdInitAirQuality) :
    t.cal = s.cal := by
  have hpast : t.PastInit s.cal t.busLog := by
    rcases exec_cases h with ⟨op, start, ho, -, -, rfl⟩ | ⟨c, rfl, hready, rfl⟩
    · have hop : op ≠ .measureAirQuality := fun heq => hi (eq_measureAirQuality_of_operationStart (heq ▸ ho))
      have hu := operationStart_starts (s := s) ho
      exact runOperation_keeps (P := fun s' => s'.PastInit s.cal s'.busLog) State.PastInit.keeps_cal
        ⟨hu.cmdSel_of_other hop, hu.cal_of_other hop, rfl⟩
    · obtain ⟨-, -, hsel⟩ := readyCommand_eq_some.1 hready
      have hc : s.cmdSel ≠ some .initAirQuality := fun hinit =>
        hcmd (congrArg Instr.ofCommand (Option.some.inj (hsel.symm.trans hinit)))
      exact runCommand_keeps (P := fun s' => s'.PastInit s.cal s'.busLog) State.PastInit.keeps_cal ⟨hc, rfl, rfl⟩
  exact hpast.cal

/-- Settles O40: an instruction moves on from `s` or from where its operation starts, and either is out of `IDLE`. -/
theorem everyInstructionKeepsWhatItDoesNotName : Obligations.EveryInstructionKeepsWhatItDoesNotName := by
  intro i s t hinv h
  obtain ⟨u, hphase, hreads, hlog, hin, hr, hresp, hvalid, hlead⟩ : ∃ u : State, u.phase ≠ .idle ∧
      u.statusReads = s.statusReads ∧ u.busLog = s.busLog ∧ u.inputs = s.inputs ∧ u.responses = s.responses ∧
      u.resp = s.resp ∧ u.respValid = s.respValid ∧ u.LeadsTo t := by
    rcases exec_leadsTo h with ⟨op, start, u, -, -, hu, hlead⟩ | ⟨c, rfl, hready, hlead⟩
    · exact ⟨u, hu.phase, hu.reads, hu.log, hu.inputs, hu.responses, hu.resp, hu.respValid, hlead⟩
    · obtain ⟨hphase, -, -⟩ := readyCommand_eq_some.1 hready
      exact ⟨s, by rw [hphase]; nofun, rfl, rfl, rfl, rfl, rfl, rfl, hlead⟩
  refine ⟨exec_params h, hlead.reads.trans hreads, hlog ▸ hlead.log, hin ▸ hlead.inputs, exec_life hinv h,
    exec_cal h, ?_⟩
  rw [← hr, ← hresp, ← hvalid]
  rcases hlead.answered with ⟨hr', hresp', hvalid', hidle⟩ | ⟨hr', hvalid', hidle⟩
  · exact .inl ⟨hr', hresp', hvalid', by simpa [State.busy] using mt hidle hphase⟩
  · exact .inr ⟨hr', hvalid', by simp [State.busy, hidle]⟩

/-! ## The init command after calibration has started -/

/-- Where the init command is not selected, the outstanding call is no write of its opcode. -/
theorem State.Inv.not_isInitWrite (h : s.Inv) (hwf : s.params.wf = true) (hcmd : s.cmdSel ≠ some .initAirQuality)
    (ho : s.outstanding = some call) (answer : Option Answer) :
    isInitWrite s.params { call := call, answer := answer } = false := by
  have hcall := h.call_of_phase call ho
  unfold State.phaseCall at hcall
  split at hcall <;> cases hcall
  case h_2 hphase =>
    obtain ⟨op, c, hr⟩ := h.runs (by rw [hphase]; rfl)
    have hc : c ≠ .initAirQuality := fun heq => hcmd (heq ▸ hr.cmdSel)
    have hne : s.params.opcode c ≠ s.params.opInitAirQuality := fun heq => hc (opcode_injective hwf heq)
    have hbytes : cmdBytes s.desc.opcode ≠ cmdBytes s.params.opInitAirQuality := by
      rw [hr.desc]
      intro heq
      obtain ⟨hhi, hlo⟩ := List.cons_eq_cons.1 heq
      apply hne
      rw [← be16_bytes (s.params.opcode c), ← be16_bytes s.params.opInitAirQuality]
      exact congrArg₂ be16 hhi (List.cons_eq_cons.1 hlo).1
    exact decide_eq_false hbytes
  all_goals rfl

/-- A run on which the init command is not selected: `n` writes of its opcode are in the history, and stay so. -/
structure State.NoInitWrite (p : Params) (n : Nat) (s : State) : Prop where
  inv : s.Inv
  params : s.params = p
  past : s.PastInit .calibrating s.busLog
  count : s.busLog.countP (isInitWrite p) = n

theorem State.NoInitWrite.keeps {p : Params} {n : Nat} (hwf : p.wf = true) (s t : State) (h : s.NoInitWrite p n)
    (hm : s.nextMove = some t) : t.NoInitWrite p n := by
  obtain ⟨hinv, rfl, hpast, hcount⟩ := h
  refine ⟨hinv.nextMove hm, nextMove_params hm, State.PastInit.keeps_cal s t hpast hm, ?_⟩
  rcases hpast.nextMove hm with ht | ⟨call, a, ho, ht⟩
  · rw [ht.busLog, hcount]
  · rw [ht.busLog, List.countP_append, hcount, List.countP_singleton, hinv.not_isInitWrite hwf hpast.cmdSel ho]
    rfl

/-- Settles O44: a later MEASURE_AIR_QUALITY starts with the measure command, and no move selects the init command. -/
theorem calibratedMeasurementsNeverReissueTheInit : Obligations.CalibratedMeasurementsNeverReissueTheInit := by
  intro s t hinv hwf hcal h
  have ht : t.NoInitWrite s.params (s.busLog.countP (isInitWrite s.params)) := by
    obtain ⟨hidle, hlife, rfl⟩ := hostRequest_next h
    refine runOperation_keeps (State.NoInitWrite.keeps hwf)
      ⟨hinv.operationStart (i := .measureAirQuality) rfl hidle hlife, startMeasureAirQuality_params, ?_, ?_⟩
    all_goals rw [startMeasureAirQuality_of_calibrating (s := s.begin .measureAirQuality) hcal]
    · exact ⟨nofun, hcal, rfl⟩
    · rfl
  refine ⟨ht.count, fun ho => ?_⟩
  have hnot := ht.inv.not_isInitWrite (ht.params.symm ▸ hwf) ht.past.cmdSel ho none
  rw [ht.params] at hnot
  simp [isInitWrite] at hnot

/-! ## Faults -/

/-- No instruction faults. -/
theorem exec_ne_fault (i : Instr) (s : State) (r : Fault) : exec i s ≠ .fault r := by
  cases ho : operationStart i with
  | some p =>
    rw [exec_of_operationStart ho]
    rcases hostRequest_next_or_refused p.1 (needsLife p.1) p.2 s with ⟨t, ht⟩ | ⟨f, hf⟩
    · rw [ht]; nofun
    · rw [hf]; nofun
  | none =>
    obtain ⟨c, rfl⟩ := eq_ofCommand_of_operationStart ho
    rw [exec_ofCommand, execCommand]
    split <;> nofun

/-- The sequencer's own turn faults only where the schedule has ended on an unanswered call (R146, U6). -/
theorem sequencerTurn_fault {r : Fault} (h : sequencerTurn s = .fault r) :
    r = .transportSilent ∧ s.params.transportMayHang = false ∧ s.outstanding ≠ none ∧ s.inputs = [] := by
  unfold sequencerTurn at h
  split at h
  · cases h
  · rename_i hin
    unfold waitOn at h
    split at h
    · rename_i hwait
      cases h
      exact ⟨rfl, hwait.2, Option.isSome_iff_ne_none.1 hwait.1, hin⟩
    · cases h
  · cases h

/-- Settles O45: of all a step can do, only the sequencer's own turn can fault. -/
theorem onlyAnExcludedSilenceFaults : Obligations.OnlyAnExcludedSilenceFaults := by
  intro s r h
  unfold step at h
  split at h
  · cases h
  · unfold runRequest at h
    split at h
    · exact absurd h (exec_ne_fault _ _ _)
    · cases h
  · unfold serveStatusRead at h
    split at h <;> cases h
  · cases h
  · unfold blockTurn at h
    split at h
    · exact absurd h (exec_ne_fault _ _ _)
    · exact sequencerTurn_fault h

/-! ## The phase table -/

/-- A command that has returned leads to `FINISH`, or, after the init command, to the measure command (R25). -/
theorem commandReturned_phase (r : List Byte) (s : State) :
    ((s.curOp = some .measureAirQuality ∧ s.cmdSel = some .initAirQuality) ∧
      (s.commandReturned r).phase = .write) ∨
    (¬ (s.curOp = some .measureAirQuality ∧ s.cmdSel = some .initAirQuality) ∧
      (s.commandReturned r).phase = .finish) := by
  rcases commandReturned_cases r s with
    ⟨hop, hc, ⟨-, he⟩ | ⟨-, he⟩⟩ | ⟨hnot, ⟨-, he⟩ | ⟨-, -, he⟩ | ⟨-, -, he⟩ | ⟨-, -, he⟩⟩ <;> rw [he]
  · exact .inl ⟨⟨hop, hc⟩, rfl⟩
  · exact .inl ⟨⟨hop, hc⟩, rfl⟩
  all_goals exact .inr ⟨hnot, rfl⟩

/-- An answer moves the block along an edge of the table (R25). -/
theorem phaseEdge_of_onAnswer (ha : (s.logAnswer call a rest).onAnswer a = some t) : phaseEdge s t (some a) := by
  rcases onAnswer_cases ha with ⟨present, hp, rfl, rfl⟩ | ⟨hp, rfl, rfl⟩ | ⟨hp, rfl, rfl⟩ | ⟨hp, rfl, rfl⟩ |
    ⟨hp, rfl, rfl⟩ | ⟨bytes, hp, rfl, rfl⟩
  all_goals replace hp : s.phase = _ := hp
  · unfold State.scanAnswered
    split <;> simpa only [phaseEdge, hp]
  · simp only [phaseEdge, hp, State.enterSettle_phase]
  · simp only [phaseEdge, hp, State.conclude_phase]
  · unfold State.sleepReturned
    split
    · rename_i hwords
      rcases commandReturned_phase [] (s.logAnswer call .slept rest) with ⟨hinit, hphase⟩ | ⟨hnot, hphase⟩
      · simp only [phaseEdge, hp, hphase]
        exact ⟨hwords, hinit⟩
      · simp only [phaseEdge, hp, hphase]
        exact ⟨hwords, hnot⟩
    · simpa only [phaseEdge, hp]
  · simp only [phaseEdge, hp, State.conclude_phase]
  · unfold State.readAnswered
    split <;> simpa only [phaseEdge, hp]

/-- The check of a word goes on to the next one or ends the operation (R140, R142). -/
theorem verifyWord_edge (hinv : s.Inv) (hp : s.phase = .verify) :
    (s.verifyWord.phase = .verify ∧ s.verifyWord.busLog = s.busLog) ∨ phaseEdge s s.verifyWord none := by
  obtain ⟨-, hidx⟩ := hinv.verify_whole hp
  obtain ⟨op, c, hr⟩ := hinv.runs (by rw [hp]; rfl)
  by_cases hgood : wordGood s.params.crc s.rxbuf s.widx.toNat
  · by_cases hmore : s.widx.toNat + 1 < s.desc.nwords.toNat
    · rw [verifyWord_of_good hgood hmore]
      exact .inl ⟨hp, rfl⟩
    · right
      have hlast : s.widx.toNat + 1 = s.desc.nwords.toNat := by omega
      have hinit : s.cmdSel ≠ some .initAirQuality := by
        intro h
        obtain rfl := Option.some.inj (hr.cmdSel.symm.trans h)
        rw [hr.desc] at hidx
        exact Nat.not_lt_zero _ hidx
      have hphase : s.verifyWord.phase = .finish := by
        rw [verifyWord_of_last hgood hlast]
        rcases commandReturned_phase (resultOf s.rxbuf s.desc.nwords.toNat) (s.setCrc s.wordCrc) with
          ⟨⟨-, h⟩, -⟩ | ⟨-, h⟩
        · exact absurd h hinit
        · exact h
      unfold phaseEdge
      rw [hp, hphase]
      exact .inl hlast
  · right
    rw [verifyWord_of_bad hgood]
    unfold phaseEdge
    rw [hp]
    exact .inr hgood

/-- Settles O27: a move issues a call, takes an answer, checks a word or delivers. -/
theorem everyMoveFollowsAnEdgeOfTheTable : Obligations.EveryMoveFollowsAnEdgeOfTheTable := by
  intro s t hinv h
  have hidle := phase_ne_idle_of_nextMove h
  rcases nextMove_cases h with ⟨-, hcall, rfl⟩ | ⟨call, a, rest, ho, hin, ha⟩ | ⟨hp, rfl⟩ | ⟨v, hp, -, rfl⟩
  · exact .inl ⟨rfl, hidle, fun hp => hcall (by simp [State.phaseCall, hp]), rfl⟩
  · right
    have htaken : s.answerTaken = some a := by simp [State.answerTaken, ho, hin]
    rw [htaken]
    exact phaseEdge_of_onAnswer ha
  · have hnone : s.answerTaken = none := by
      simp [State.answerTaken, hinv.no_call (by simp [State.phaseCall, hp])]
    rw [hnone]
    rcases verifyWord_edge hinv hp with ⟨hphase, hlog⟩ | hedge
    · exact .inl ⟨hphase.trans hp.symm, hidle, by rw [hp]; nofun, hlog⟩
    · exact .inr hedge
  · right
    have hnone : s.answerTaken = none := by
      simp [State.answerTaken, hinv.no_call (by simp [State.phaseCall, hp])]
    unfold phaseEdge
    rw [hnone, hp]
    rfl

end Sys2Proof.Machine
end

section
/-! How far an operation runs. Every move of the sequencer brings it nearer to where it must wait, so the moves of a
step are enough (10_state.md R25, log entry 10); and where the transport is silent or the host comes first, they are
few. -/

namespace Sys2Proof.Machine

variable {s t u : State} {op : HostOp} {c : Command} {call : BusCall} {a : Answer} {rest : List Input} {k : Nat}

/-! ## The moves left -/

/-- Whether the init command of MEASURE_AIR_QUALITY is running, after whose return another command follows (R178). -/
def State.initRuns (s : State) : Bool := s.curOp = some .measureAirQuality && s.cmdSel = some .initAirQuality

/-- A bound on the moves after the running command has returned: the delivery, or a whole command and the delivery. -/
def State.movesAfterReturn (s : State) : Nat := if s.initRuns then 10 else 1

/-- The move that issues the call of the phase, where it is still to be made. -/
def State.movesToIssue (s : State) : Nat := if s.outstanding = none then 1 else 0

/-- A bound on the moves the sequencer can make: each call takes two, each word and the delivery one. -/
def State.movesLeft (s : State) : Nat :=
  match s.phase with
  | .idle => 0
  | .finish => 1
  | .verify => max 1 (s.desc.nwords.toNat - s.widx.toNat) + s.movesAfterReturn
  | .read => 1 + s.movesToIssue + 3 + s.movesAfterReturn
  | .settle => 1 + s.movesToIssue + 5 + s.movesAfterReturn
  | .write => 1 + s.movesToIssue + 7 + s.movesAfterReturn
  | .scan => 1 + s.movesToIssue + 10

theorem one_le_movesAfterReturn (s : State) : 1 ≤ s.movesAfterReturn := by
  unfold State.movesAfterReturn
  split <;> omega

theorem movesToIssue_le_one (s : State) : s.movesToIssue ≤ 1 := by
  unfold State.movesToIssue
  split <;> omega

theorem movesLeft_le (s : State) : s.movesLeft ≤ 19 := by
  have hissue := movesToIssue_le_one s
  have hreturn : s.movesAfterReturn ≤ 10 := by
    unfold State.movesAfterReturn
    split <;> omega
  have hwords := s.desc.nwords.isLt
  unfold State.movesLeft
  split <;> omega

theorem movesLeft_conclude (v : Verdict) (s : State) : (s.conclude v).movesLeft = 1 := rfl

/-- A command that is not the init command needs ten moves. -/
theorem movesLeft_select (s : State) (hc : c ≠ .initAirQuality) : (s.select c).movesLeft ≤ 10 := by
  have hinit : (s.select c).initRuns = false := by simp [State.initRuns, hc]
  have hreturn : (s.select c).movesAfterReturn = 1 := by simp [State.movesAfterReturn, hinit]
  have hleft : (s.select c).movesLeft = 1 + (s.select c).movesToIssue + 7 + (s.select c).movesAfterReturn := rfl
  have hissue := movesToIssue_le_one (s.select c)
  omega

theorem movesLeft_commandReturned (r : List Byte) (s : State) :
    (s.commandReturned r).movesLeft ≤ s.movesAfterReturn := by
  rcases commandReturned_cases r s with
    ⟨hop, hc, ⟨-, he⟩ | ⟨-, he⟩⟩ | ⟨-, ⟨-, he⟩ | ⟨-, -, he⟩ | ⟨-, -, he⟩ | ⟨-, -, he⟩⟩ <;> rw [he]
  case inr.inl | inr.inr.inl | inr.inr.inr.inl | inr.inr.inr.inr => exact one_le_movesAfterReturn s
  all_goals
    have hreturn : s.movesAfterReturn = 10 := by simp [State.movesAfterReturn, State.initRuns, hop, hc]
    rw [hreturn]
    exact movesLeft_select _ nofun

/-- The calls of a command that are still to be made, with what follows them, by the phase. -/
theorem movesLeft_of_phase (s : State) :
    (s.phase = .scan → s.movesLeft = 1 + s.movesToIssue + 10) ∧
    (s.phase = .write → s.movesLeft = 1 + s.movesToIssue + 7 + s.movesAfterReturn) ∧
    (s.phase = .settle → s.movesLeft = 1 + s.movesToIssue + 5 + s.movesAfterReturn) ∧
    (s.phase = .read → s.movesLeft = 1 + s.movesToIssue + 3 + s.movesAfterReturn) := by
  refine ⟨?_, ?_, ?_, ?_⟩
  all_goals
    intro hp
    simp only [State.movesLeft, hp]

/-- An answer taken leaves two moves fewer than the call had before it was issued. -/
theorem movesLeft_onAnswer (hout : s.outstanding = none) (ha : s.onAnswer a = some t) :
    t.movesLeft + 2 ≤ s.movesLeft := by
  have hissue : s.movesToIssue = 1 := by simp [State.movesToIssue, hout]
  have hreturn := one_le_movesAfterReturn s
  obtain ⟨hscan, hwrite, hsettle, hread⟩ := movesLeft_of_phase s
  rcases onAnswer_cases ha with ⟨present, hp, -, rfl⟩ | ⟨hp, -, rfl⟩ | ⟨hp, -, rfl⟩ | ⟨hp, -, rfl⟩ | ⟨hp, -, rfl⟩ |
    ⟨bytes, hp, -, rfl⟩
  · have hnext : (s.scanAnswered present).movesLeft ≤ 10 := by
      unfold State.scanAnswered
      split
      · exact movesLeft_select s nofun
      · exact Nat.le_add_left 1 9
    have := hscan hp
    omega
  · have hnext : s.enterSettle.movesLeft = 1 + s.movesToIssue + 5 + s.movesAfterReturn := rfl
    have := hwrite hp
    omega
  · have := hwrite hp
    rw [movesLeft_conclude]
    omega
  · have hnext : s.sleepReturned.movesLeft ≤ 1 + s.movesToIssue + 3 + s.movesAfterReturn := by
      unfold State.sleepReturned
      split
      · exact (movesLeft_commandReturned [] s).trans (Nat.le_add_left _ _)
      · exact le_rfl
    have := hsettle hp
    omega
  · have := hread hp
    rw [movesLeft_conclude]
    omega
  · have hnext : (s.readAnswered bytes).movesLeft ≤ 3 + s.movesAfterReturn := by
      have hwords := s.desc.nwords.isLt
      unfold State.readAnswered
      split
      · have hverify : (s.enterVerify bytes).movesLeft = max 1 (s.desc.nwords.toNat - 0) + s.movesAfterReturn := rfl
        omega
      · rw [raise_eq, movesLeft_conclude]
        omega
    have := hread hp
    omega

/-- The check of a word leaves fewer words. -/
theorem movesLeft_verifyWord (hp : s.phase = .verify) : s.verifyWord.movesLeft < s.movesLeft := by
  have hreturn := one_le_movesAfterReturn s
  have hleft : s.movesLeft = max 1 (s.desc.nwords.toNat - s.widx.toNat) + s.movesAfterReturn := by
    simp only [State.movesLeft, hp]
  unfold State.verifyWord
  dsimp only
  split
  · split
    · rename_i hmore
      have hidx : (s.widx + 1#2).toNat = s.widx.toNat + 1 := by
        have hwords := s.desc.nwords.isLt
        rw [BitVec.toNat_add]
        exact Nat.mod_eq_of_lt (show s.widx.toNat + 1 < 2 ^ 2 by omega)
      have hnext : ((s.setCrc s.wordCrc).nextWord).movesLeft
          = max 1 (s.desc.nwords.toNat - (s.widx.toNat + 1)) + s.movesAfterReturn := by
        rw [← hidx]
        simp only [State.movesLeft, State.nextWord_phase, State.setCrc_phase, hp]
        rfl
      change ((s.setCrc s.wordCrc).nextWord).movesLeft < _
      omega
    · have hnext := movesLeft_commandReturned (resultOf s.rxbuf s.desc.nwords.toNat) (s.setCrc s.wordCrc)
      have hsame : (s.setCrc s.wordCrc).movesAfterReturn = s.movesAfterReturn := rfl
      change ((s.setCrc s.wordCrc).commandReturned _).movesLeft < _
      omega
  · rw [raise_eq, movesLeft_conclude]
    omega

/-- A call to be made has its phase's moves, and one more while it is not yet issued. -/
theorem movesLeft_issueCall (hout : s.outstanding = none) (hcall : s.phaseCall ≠ none) :
    s.issueCall.movesLeft < s.movesLeft := by
  have hbefore : s.movesToIssue = 1 := by simp [State.movesToIssue, hout]
  have hafter : s.issueCall.movesToIssue = 0 := by simp [State.movesToIssue, hcall]
  have hreturn : s.issueCall.movesAfterReturn = s.movesAfterReturn := rfl
  unfold State.movesLeft
  cases hp : s.phase
  case idle | verify | finish => simp [State.phaseCall, hp] at hcall
  all_goals
    simp only [State.issueCall_phase, hp]
    omega

theorem movesLeft_logAnswer_le (call : BusCall) (a : Answer) (rest : List Input) (s : State) :
    (s.logAnswer call a rest).movesLeft ≤ s.movesLeft + 1 := by
  have hissue := movesToIssue_le_one (s.logAnswer call a rest)
  have hreturn : (s.logAnswer call a rest).movesAfterReturn = s.movesAfterReturn := rfl
  unfold State.movesLeft
  cases hp : s.phase <;> simp only [State.logAnswer_phase, State.logAnswer_desc, State.logAnswer_widx, hp] <;> omega

/-- Every move leaves fewer (R25). -/
theorem movesLeft_nextMove (h : s.nextMove = some t) : t.movesLeft < s.movesLeft := by
  rcases nextMove_cases h with ⟨hout, hcall, rfl⟩ | ⟨call, a, rest, -, -, ha⟩ | ⟨hp, rfl⟩ | ⟨v, hp, -, rfl⟩
  · exact movesLeft_issueCall hout hcall
  · have htake := movesLeft_onAnswer rfl ha
    have hlog := movesLeft_logAnswer_le call a rest s
    omega
  · exact movesLeft_verifyWord hp
  · have hleft : s.movesLeft = 1 := by simp only [State.movesLeft, hp]
    rw [hleft]
    exact Nat.one_pos

theorem movesLeft_advance (h : s.advance = some t) : t.movesLeft < s.movesLeft :=
  movesLeft_nextMove (advance_eq_some.1 h).2

/-! ## The end of the moves -/

/-- As many moves as are left lead to where the sequencer can make none. -/
theorem advance_runMoves (h : s.movesLeft ≤ k) : (State.runMoves k s).advance = none := by
  induction k generalizing s with
  | zero =>
    rw [State.runMoves, Option.eq_none_iff_forall_ne_some]
    intro t ht
    have := movesLeft_advance ht
    omega
  | succ k ih =>
    cases hadv : s.advance with
    | none => simp [State.runMoves, hadv]
    | some t =>
      rw [runMoves_of_advance hadv]
      have := movesLeft_advance hadv
      exact ih (by omega)

theorem runMoves_of_advance_eq_none (h : s.advance = none) : State.runMoves k s = s := by
  cases k with
  | zero => rfl
  | succ k => simp [State.runMoves, h]

/-- Settles O28: the budget of a step is above the moves left in any state. -/
theorem anOperationRunsUntilItMustWait : Obligations.AnOperationRunsUntilItMustWait := by
  intro s
  exact advance_runMoves ((movesLeft_le s).trans (Nat.le_of_ble_eq_true rfl))

/-- The moves of a command are the first moves of its operation. -/
theorem runCommandMoves_eq_runMoves (k : Nat) (s : State) : ∃ m, State.runCommandMoves k s = State.runMoves m s := by
  induction k generalizing s with
  | zero => exact ⟨0, rfl⟩
  | succ k ih =>
    cases hadv : s.advance with
    | none => exact ⟨0, by simp [State.runCommandMoves, State.runMoves, hadv]⟩
    | some t =>
      cases hready : t.readyCommand with
      | none =>
        obtain ⟨m, hm⟩ := ih t
        exact ⟨m + 1, by simp [State.runCommandMoves, State.runMoves, hadv, hready, hm]⟩
      | some c => exact ⟨1, by simp [State.runCommandMoves, State.runMoves, hadv, hready]⟩

/-- Settles O29: the command makes the first moves of the operation, and after the last of them no move is left. -/
theorem anOperationIsItsCommandsInARow : Obligations.AnOperationIsItsCommandsInARow := by
  intro s
  obtain ⟨m, hm⟩ := runCommandMoves_eq_runMoves Config.moveBudget s
  calc s.runCommand.runOperation
      = State.runMoves (m + Config.moveBudget) s := by rw [runMoves_add, ← hm]; rfl
    _ = State.runMoves m s.runOperation := by rw [Nat.add_comm, runMoves_add]; rfl
    _ = s.runOperation := runMoves_of_advance_eq_none (anOperationRunsUntilItMustWait s)

/-! ## Acceptance alone -/

/-- Where the outside comes first the sequencer makes no move. -/
theorem runOperation_of_heldUp (h : s.heldUp = true) : s.runOperation = s :=
  runMoves_of_advance_eq_none (by simp [State.advance, h])

/-- Where the outside comes first, an accepted request leads to the start of its operation. -/
theorem exec_of_heldUp {i : Instr} {start : State → State} (ho : operationStart i = some (op, start))
    (hidle : s.phase = .idle) (hheld : s.heldUp = true) (hlife : needsLife op = none ∨ needsLife op = some s.life) :
    exec i s = .next (start (s.begin op)) := by
  have hstill : (start (s.begin op)).heldUp = true := by
    rw [State.heldUp, (operationStart_starts ho).inputs]
    exact hheld
  rw [exec_of_accepted ho hidle hlife, runOperation_of_heldUp hstill]

/-- The self-test runs its command before calibration has started (R175). -/
theorem startSelfTest_of_uninitialized (h : s.cal = .uninitialized) : startSelfTest s = s.select .measureTest := by
  simp [startSelfTest, h]

/-- Settles O11: the state after acceptance is the start of the operation. -/
theorem acceptanceEntersTheFirstPhase : Obligations.AcceptanceEntersTheFirstPhase := by
  intro s hidle hheld
  refine ⟨fun hlife => ?_, fun hlife => ?_, fun data => ?_⟩
  · exact ⟨_, exec_of_heldUp (i := .construct) rfl hidle hheld (.inr (congrArg some hlife.symm)), rfl, rfl, rfl⟩
  · have hready : some Life.ready = some s.life := congrArg some hlife.symm
    refine ⟨?_, fun hcal => ?_, fun hcal => ?_, fun hcal => ?_, fun hcal => ?_, ?_⟩
    · exact ⟨_, exec_of_heldUp (i := .identify) rfl hidle hheld (.inr hready), rfl, rfl, rfl⟩
    · refine ⟨_, exec_of_heldUp (i := .selfTest) rfl hidle hheld (.inr hready), ?_⟩
      rw [startSelfTest_of_uninitialized (s := s.begin .selfTest) hcal]
      exact ⟨rfl, rfl, rfl⟩
    · refine ⟨_, exec_of_heldUp (i := .selfTest) rfl hidle hheld (.inr hready), ?_⟩
      rw [startSelfTest_of_calibrating (s := s.begin .selfTest) hcal]
      exact ⟨rfl, rfl⟩
    · refine ⟨_, exec_of_heldUp (i := .measureAirQuality) rfl hidle hheld (.inr hready), ?_⟩
      rw [startMeasureAirQuality_of_uninitialized (s := s.begin .measureAirQuality) hcal]
      exact ⟨rfl, rfl, rfl⟩
    · refine ⟨_, exec_of_heldUp (i := .measureAirQuality) rfl hidle hheld (.inr hready), ?_⟩
      rw [startMeasureAirQuality_of_calibrating (s := s.begin .measureAirQuality) hcal]
      exact ⟨rfl, rfl, rfl⟩
    · exact ⟨_, exec_of_heldUp (i := .measureRawSignals) rfl hidle hheld (.inr hready), rfl, rfl, rfl⟩
  · exact ⟨_, exec_of_heldUp (i := .checksum data) rfl hidle hheld (.inl rfl), rfl, rfl⟩

/-! ## The transport silent -/

/-- With nothing more on the schedule, the block waits at the call it has issued (R146). -/
theorem advance_of_silent (hcall : s.phaseCall = some call) (hout : s.outstanding = some call) (hin : s.inputs = []) :
    s.advance = none := by
  simp [State.advance, State.heldUp, hin, nextMove_of_phaseCall hcall, State.busMove, hout]

/-- With nothing on the schedule, an operation goes as far as its first call (R146). -/
theorem runOperation_of_silent (hcall : s.phaseCall = some call) (hout : s.outstanding = none) (hin : s.inputs = []) :
    s.runOperation = s.issueCall := by
  have hissue : s.advance = some s.issueCall := by
    simp [State.advance, State.heldUp, hin, nextMove_of_phaseCall hcall, State.busMove, hout]
  have hwait : s.issueCall.advance = none := advance_of_silent (s := s.issueCall) hcall hcall hin
  rw [State.runOperation, show Config.moveBudget = 31 + 1 from rfl, runMoves_of_advance hissue,
    runMoves_of_advance_eq_none hwait]

/-- An operation that starts with command `c`, under whatever `CAL`, waits at the write of `c` (R132). -/
theorem exec_of_silent_command {i : Instr} {start : State → State} {cal : Cal}
    (ho : operationStart i = some (op, start)) (hrest : s.atRest) (hin : s.inputs = [])
    (hlife : needsLife op = some s.life) (hstart : start (s.begin op) = ((s.begin op).setCal cal).select c) :
    ∃ t, exec i s = .next t ∧ t.phase = .write ∧
      t.outstanding = some (.write s.params.devAddr
        [(s.params.opcode c).extractLsb' 8 8, (s.params.opcode c).extractLsb' 0 8]) ∧
      t.cmdSel = some c ∧ t.busy = true ∧ t.responses = s.responses ∧ t.busLog = s.busLog := by
  obtain ⟨hidle, hout⟩ := hrest
  have hrun := runOperation_of_silent (s := ((s.begin op).setCal cal).select c) rfl hout hin
  rw [exec_of_accepted ho hidle (.inr hlife), hstart, hrun]
  exact ⟨_, rfl, rfl, rfl, rfl, rfl, rfl, rfl⟩

/-- Settles O30: each operation starts with its scan or with its own first command, and waits there. -/
theorem aSilentTransportLeavesTheOperationWaiting : Obligations.ASilentTransportLeavesTheOperationWaiting := by
  intro s hrest hin
  refine ⟨fun hlife => ?_, fun hlife i c hcase => ?_⟩
  · obtain ⟨hidle, hout⟩ := hrest
    have hrun := runOperation_of_silent (s := startConstruct (s.begin .construct)) rfl hout hin
    rw [exec_of_accepted (i := .construct) rfl hidle (.inr (congrArg some hlife.symm)), hrun]
    exact ⟨_, rfl, rfl, rfl, rfl, rfl, rfl⟩
  · have hready : some Life.ready = some s.life := congrArg some hlife.symm
    rcases hcase with ⟨rfl, rfl⟩ | ⟨rfl, hcal, rfl⟩ | ⟨rfl, hcal, rfl⟩ | ⟨rfl, hcal, rfl⟩ | ⟨rfl, rfl⟩
    · exact exec_of_silent_command (cal := s.cal) rfl hrest hin hready rfl
    · exact exec_of_silent_command (cal := s.cal) rfl hrest hin hready
        (startSelfTest_of_uninitialized (s := s.begin .selfTest) hcal)
    · exact exec_of_silent_command rfl hrest hin hready
        (startMeasureAirQuality_of_uninitialized (s := s.begin .measureAirQuality) hcal)
    · exact exec_of_silent_command (cal := s.cal) rfl hrest hin hready
        (startMeasureAirQuality_of_calibrating (s := s.begin .measureAirQuality) hcal)
    · exact exec_of_silent_command (cal := s.cal) rfl hrest hin hready rfl

/-- Where no command is to be started, a step that serves nothing is the sequencer's own turn. -/
theorem step_of_sequencerTurn (hfree : s.heldUp = false) (hready : s.readyCommand = none) :
    step s = sequencerTurn s := by
  rw [step_of_free hfree]
  simp [blockTurn, hready]

/-- An input of no use to a block that cannot move is taken off the schedule (R240). -/
theorem step_discards {i : Input} (hin : s.inputs = i :: rest) (hi : i.holdsUp = false) (hready : s.readyCommand = none)
    (hadv : s.advance = none) : step s = .next (s.takeInput rest) := by
  rw [step_of_sequencerTurn ((heldUp_of_inputs hin).trans hi) hready]
  simp [sequencerTurn, hadv, hin]

/-- Settles O33: the late answer is of no use to the phase, which therefore does not move. -/
theorem lateAnswersAreDiscarded : Obligations.LateAnswersAreDiscarded := by
  intro s a rest hin hwaits
  have hstuck : s.readyCommand = none ∧ s.nextMove = none := by
    rcases hwaits with hidle | ⟨call, hcall, hout⟩
    · exact ⟨readyCommand_eq_none_of_phase (by simp [hidle]), by simp [State.nextMove, hidle]⟩
    · exact ⟨readyCommand_eq_none_of_outstanding hout, by
        simp [nextMove_of_phaseCall hcall, State.busMove, hout, hin]⟩
  obtain ⟨hready, hmove⟩ := hstuck
  exact step_discards hin rfl hready (by simp [State.advance, hmove])

/-- A step with a call unanswered and nothing on the schedule leads to the same state (R146). -/
theorem step_of_silent (hcall : s.phaseCall = some call) (hout : s.outstanding = some call) (hin : s.inputs = [])
    (hhang : s.params.transportMayHang = true) : step s = .next s := by
  rw [step_of_sequencerTurn (by simp [State.heldUp, hin]) (readyCommand_eq_none_of_outstanding hout)]
  simp [sequencerTurn, advance_of_silent hcall hout hin, hin, waitOn, hhang]

/-- Settles O34: by induction on the number of steps, each of which leads to the same state. -/
theorem anUnansweredCallIsAStuckState : Obligations.AnUnansweredCallIsAStuckState := by
  intro s call k hcall hout hin hhang
  constructor
  · induction k with
    | zero => rfl
    | succ k ih =>
      have hstep : Sys2Proof.core.step s = .next s := step_of_silent hcall hout hin hhang
      simp only [Host.Core.run, hstep, ih]
  · have hphase : s.phase ≠ .idle := fun hidle => by simp [State.phaseCall, hidle] at hcall
    simpa [State.busy] using hphase

end Sys2Proof.Machine
end

section
/-! The operations with their own end (42_operations.md R171 to R176, R178; 40_crc8.md R112): CONSTRUCT sets `LIFE`,
SELF_TEST compares the word, the init command is followed by the measure command, CHECKSUM has no bus event. One
transaction is said once for every operation that reads. -/

namespace Sys2Proof.Machine

variable {s t u : State} {op : HostOp} {c : Command} {v : Verdict} {bytes : List Byte} {rest : List Input} {ok : Bool}
  {r : Option (List Byte)} {k : Nat}

/-! ## What an operation makes of the outcome of its command -/

/-- The verdict of an operation whose command ended with `v`: SELF_TEST compares the word (R176). -/
def operationVerdict (p : Params) : HostOp → Verdict → Verdict
  | .selfTest, v => selfTestVerdict p.selftestExpected v
  | .construct, v | .identify, v | .measureAirQuality, v | .measureRawSignals, v | .checksum, v => v

/-- `LIFE` after an operation whose command ended with `v`: CONSTRUCT sets it (R172). -/
def operationLife : HostOp → Life → Verdict → Life
  | .construct, l, v => lifeAfterConstruct l v
  | .identify, l, _ | .selfTest, l, _ | .measureAirQuality, l, _ | .measureRawSignals, l, _ | .checksum, l, _ => l

@[simp] theorem operationVerdict_error (p : Params) (op : HostOp) (kind : ErrKind) (info : Info) :
    operationVerdict p op (.error kind info) = .error kind info := by
  cases op <;> rfl

@[simp] theorem operationLife_error (op : HostOp) (l : Life) (kind : ErrKind) (info : Info) :
    operationLife op l (.error kind info) = l := by
  cases op <;> rfl

/-- A 16-bit value is the one its two bytes make up, and no other (R14). -/
theorem be16_eq_iff {hi lo : Byte} {v : Word} : be16 hi lo = v ↔ hi = hiByte v ∧ lo = loByte v := by
  constructor
  · rintro rfl
    exact ⟨(hiByte_be16 hi lo).symm, (loByte_be16 hi lo).symm⟩
  · rintro ⟨rfl, rfl⟩
    exact be16_bytes v

/-- The word SELF_TEST expects ends it well (R176). -/
theorem selfTestVerdict_of_eq {expected : Word} (h : selfTestValue bytes = expected) :
    selfTestVerdict expected (.ok bytes) = .ok bytes := if_pos (be16_eq_iff.1 h)

/-- Another word is reported (R176). -/
theorem selfTestVerdict_of_ne {expected : Word} (h : selfTestValue bytes ≠ expected) :
    selfTestVerdict expected (.ok bytes) = .error .unexpectedResponseValue (.value (selfTestValue bytes)) :=
  if_neg (mt be16_eq_iff.2 h)

/-- A result an operation returns is the one its command returned. -/
theorem eq_of_operationVerdict_eq_ok {p : Params} {result result' : List Byte}
    (h : operationVerdict p op (.ok result) = .ok result') : result' = result := by
  cases op with
  | selfTest =>
    by_cases heq : selfTestValue result = p.selftestExpected
    · exact (Verdict.ok.inj ((selfTestVerdict_of_eq heq).symm.trans h)).symm
    · exact nomatch (selfTestVerdict_of_ne heq).symm.trans h
  | _ => exact (Verdict.ok.inj h).symm

/-- When a command other than the init command has returned, its operation has ended (R171, R173, R176, R178, R183). -/
theorem commandReturned_of_last (hop : s.curOp = some op)
    (hinit : ¬ (s.curOp = some .measureAirQuality ∧ s.cmdSel = some .initAirQuality)) (result : List Byte) :
    s.commandReturned result = (s.setLife (operationLife op s.life (.ok result))).conclude
      (operationVerdict s.params op (.ok result)) := by
  have hlife (l : Life) (hl : l = s.life) : s.setLife l = s := hl ▸ rfl
  rcases commandReturned_cases result s with
    ⟨hmeasure, hcmd, -⟩ | ⟨-, ⟨h, he⟩ | ⟨h, heq, he⟩ | ⟨h, hne, he⟩ | ⟨h, h', he⟩⟩
  · exact absurd ⟨hmeasure, hcmd⟩ hinit
  · obtain rfl := Option.some.inj (hop.symm.trans h)
    exact he
  · obtain rfl := Option.some.inj (hop.symm.trans h)
    rw [he, hlife (operationLife .selfTest s.life _) rfl]
    exact congrArg (fun v => s.conclude v) (selfTestVerdict_of_eq heq).symm
  · obtain rfl := Option.some.inj (hop.symm.trans h)
    rw [he, hlife (operationLife .selfTest s.life _) rfl]
    exact congrArg (fun v => s.conclude v) (selfTestVerdict_of_ne hne).symm
  · rw [he]
    cases op with
    | construct => exact absurd hop h
    | selfTest => exact absurd hop h'
    | _ => rfl

/-! ## One transaction, for every operation that reads -/

/-- The request is over as `Responded` says, with `LIFE` as the operation leaves it after `v` and `CAL` as in `s`. -/
structure Transacted (op : HostOp) (s t : State) (v : Verdict) (trace : List BusEvent) (rest : List Input) : Prop
    extends Responded s t (operationVerdict s.params op v) trace rest where
  life : t.life = operationLife op s.life v
  cal : t.cal = s.cal

/-- A failure ends every operation alike. -/
theorem RespondedKeeping.transacted {trace : List BusEvent} {kind : ErrKind} {info : Info}
    (h : RespondedKeeping s t (.error kind info) trace rest) (op : HostOp) :
    Transacted op s t (.error kind info) trace rest where
  toResponded := by rw [operationVerdict_error]; exact h.toResponded
  life := by rw [operationLife_error]; exact h.life
  cal := h.cal

/-- The block when `op` has returned the result of its command and the response is delivered (R145). -/
def State.returned (op : HostOp) (result : List Byte) (s : State) : State :=
  ((s.setLife (operationLife op s.life (.ok result))).conclude (operationVerdict s.params op (.ok result))).deliver
    (operationVerdict s.params op (.ok result))

/-- From `VERIFY` on, a whole answer of good words ends the operation with its result (R140, R142). -/
theorem runCommandMoves_verify_good (hop : s.curOp = some op)
    (hinit : ¬ (s.curOp = some .measureAirQuality ∧ s.cmdSel = some .initAirQuality)) (hphase : s.phase = .verify)
    (hwidx : s.widx = 0#2) (hfree : freeToMove s.inputs) (hwords : s.desc.nwords ≠ 0#2)
    (hgood : firstBadWord s.params.crc s.rxbuf s.desc.nwords.toNat = none) :
    ∃ regs i, State.runCommandMoves (k + 4) s
      = (s.atWord i regs).returned op (resultOf s.rxbuf s.desc.nwords.toNat) := by
  obtain ⟨n, hn⟩ : ∃ n, s.desc.nwords.toNat = n + 1 :=
    Nat.exists_eq_succ_of_ne_zero fun h => hwords (BitVec.eq_of_toNat_eq h)
  have hlt := s.desc.nwords.isLt
  have hreturn (regs : CrcRegs) : (s.atWord n regs).commandReturned (resultOf s.rxbuf (n + 1))
      = ((s.atWord n regs).setLife (operationLife op s.life (.ok (resultOf s.rxbuf (n + 1))))).conclude
        (operationVerdict s.params op (.ok (resultOf s.rxbuf (n + 1)))) :=
    commandReturned_of_last (s := s.atWord n regs) hop hinit _
  obtain ⟨regs, hrun⟩ := runCommandMoves_of_goodWords hphase hwidx hfree hn (hn ▸ firstBadWord_eq_none_iff.1 hgood)
    hreturn fun _ => hfree
  obtain ⟨m, hm⟩ : ∃ m, k + 4 = m + 2 + n := ⟨k + 2 - n, by omega⟩
  exact ⟨regs, n, by rw [hm, hrun, hn]; rfl⟩

/-- A whole answer of good words ends the operation with its result (R142). -/
theorem runCommandMoves_good (hsel : s.hasSelected op c) (hwords : s.desc.nwords ≠ 0#2) (hfree : freeToMove rest)
    (hin : s.inputs = [.answer .writeOk, .answer .slept, .answer (.readOk bytes)] ++ rest)
    (hlen : bytes.length = 3 * s.desc.nwords.toNat)
    (hgood : firstBadWord s.params.crc bytes s.desc.nwords.toNat = none) :
    Transacted op s (State.runCommandMoves (k + 10) s) (.ok (resultOf bytes s.desc.nwords.toNat))
      (s.readTrace c bytes) rest := by
  have hlt := s.desc.nwords.isLt
  have hcur := curOp_of_hasSelected hsel
  obtain ⟨regs, i, hrun⟩ := runCommandMoves_verify_good (k := k)
    (s := (s.onBus .read (s.readTrace c bytes) rest).enterVerify bytes) hcur
    (fun h => cmdSel_ne_init_of_words hsel hwords h.2) rfl rfl hfree hwords hgood
  rw [show k + 10 = k + 4 + 6 from rfl, runCommandMoves_to_verify hsel hwords hin hlen, hrun, State.returned]
  refine ⟨responded_deliver ?_ rfl rfl rfl rfl rfl, rfl, rfl⟩
  intro result hresult
  rw [eq_of_operationVerdict_eq_ok hresult, resultOf_length]
  change 2 * s.desc.nwords.toNat ≤ 6
  omega

/-- The selected command of an operation that reads ends the operation with the outcome and the bus events of its
answers (R62, R217). -/
theorem runCommandMoves_transacted (hsel : s.hasSelected op c) (hwords : s.desc.nwords ≠ 0#2) (hfree : freeToMove rest)
    (hin : s.inputs = commandAnswers ok r ++ rest) :
    Transacted op s (State.runCommandMoves (k + 10) s) (commandVerdict s.params.crc s.desc.nwords.toNat ok r)
      (commandTrace s.params c s.desc.nwords.toNat s.desc.delay ok r) rest := by
  cases ok with
  | false => exact (runCommandMoves_writeFailed hsel hfree hin).transacted op
  | true =>
    cases r with
    | none => exact (runCommandMoves_readFailed hsel hwords hfree hin).transacted op
    | some bytes =>
      by_cases hlen : bytes.length = 3 * s.desc.nwords.toNat
      · rw [commandVerdict_of_length hlen]
        cases hfirst : firstBadWord s.params.crc bytes s.desc.nwords.toNat with
        | none => exact runCommandMoves_good hsel hwords hfree hin hlen hfirst
        | some i => exact (runCommandMoves_corrupt hsel hwords hfree hin hlen hfirst).transacted op
      · rw [commandVerdict_of_length_ne hlen]
        exact (runCommandMoves_wrongLength hsel hwords hfree hin hlen).transacted op

/-- A reading command, executed where CTL has selected it, is one transaction with the row of the table (R82). -/
theorem exec_transacted (hsel : s.hasSelected op c) (hwords : commandWords c ≠ 0#2) (hfree : freeToMove rest)
    (hin : s.inputs = commandAnswers ok r ++ rest) :
    ∃ t, exec (.ofCommand c) s = .next t ∧ Transacted op s t (commandVerdict s.params.crc (commandWords c).toNat ok r)
      (commandTrace s.params c (commandWords c).toNat (commandDelay s.params c) ok r) rest := by
  obtain ⟨-, -, -, -, hdesc⟩ := id hsel
  have hrun := runCommandMoves_transacted (k := 22) hsel (by rw [hdesc]; exact hwords) hfree hin
  rw [hdesc] at hrun
  exact ⟨_, exec_of_hasSelected hsel, hrun⟩

/-- Settles O22: one transaction for each of the operations, with the row of its command. -/
theorem readingCommandsRunOneTransaction : Obligations.ReadingCommandsRunOneTransaction := by
  intro s ok r rest hfree hin
  refine ⟨fun hsel => ?_, fun hsel => ?_, fun hsel => ?_, fun hsel => ?_, fun hsel => ?_⟩
  all_goals
    obtain ⟨t, hexec, hover⟩ := exec_transacted (ok := ok) (r := r) hsel nofun hfree hin
    exact ⟨t, hexec, hover.toResponded, hover.life, hover.cal⟩

/-! ## Whole operations of one command -/

/-- An operation that starts with a reading command from rest is that command's transaction. -/
theorem exec_operation_transacted {i : Instr} {start : State → State} (ho : operationStart i = some (op, start))
    (hrest : s.atRest) (hlife : needsLife op = some s.life) (hstart : start (s.begin op) = (s.begin op).select c)
    (hwords : commandWords c ≠ 0#2) (hfree : freeToMove rest) (hin : s.inputs = commandAnswers ok r ++ rest) :
    ∃ t, exec i s = .next t ∧ Responded s t
      (operationVerdict s.params op (commandVerdict s.params.crc (commandWords c).toNat ok r))
      (commandTrace s.params c (commandWords c).toNat (commandDelay s.params c) ok r) rest ∧
      t.life = operationLife op s.life (commandVerdict s.params.crc (commandWords c).toNat ok r) ∧ t.cal = s.cal := by
  obtain ⟨hidle, hout⟩ := hrest
  have hsel : ((s.begin op).select c).hasSelected op c := select_hasSelected rfl hout
  have hrun := runCommandMoves_transacted (k := 22) hsel hwords hfree hin
  rw [exec_of_accepted ho hidle (.inr hlife), hstart, State.runOperation,
    show State.runMoves Config.moveBudget _ = _ from runMoves_of_responded hrun.toResponded]
  exact ⟨_, rfl, hrun.toResponded.of_start rfl rfl rfl rfl, hrun.life, hrun.cal⟩

/-- Settles O13: IDENTIFY is GET_SERIAL_ID. -/
theorem identifyReturnsTheIdentifier : Obligations.IdentifyReturnsTheIdentifier := by
  intro s ok r rest hrest hlife hfree hin
  exact exec_operation_transacted (op := .identify) (c := .getSerialId) rfl hrest (congrArg some hlife.symm) rfl nofun
    hfree hin

/-- Settles O14: before calibration SELF_TEST is MEASURE_TEST, with its own check of the word. -/
theorem selfTestComparesTheVerifiedWord : Obligations.SelfTestComparesTheVerifiedWord := by
  intro s ok r rest hrest hlife hcal hfree hin
  exact exec_operation_transacted (op := .selfTest) (c := .measureTest) rfl hrest (congrArg some hlife.symm)
    (startSelfTest_of_uninitialized (s := s.begin .selfTest) hcal) nofun hfree hin

/-- Settles O17: after calibration has started MEASURE_AIR_QUALITY is its measure command. -/
theorem laterMeasurementOnlyMeasures : Obligations.LaterMeasurementOnlyMeasures := by
  intro s ok r rest hrest hlife hcal hfree hin
  exact exec_operation_transacted (op := .measureAirQuality) (c := .measureAirQuality) rfl hrest
    (congrArg some hlife.symm) (startMeasureAirQuality_of_calibrating (s := s.begin .measureAirQuality) hcal) nofun
    hfree hin

/-! ## Operations without a bus event -/

/-- Settles O15: the guard concludes before any command, and the error is delivered. -/
theorem selfTestAfterCalibrationViolatesSequencing : Obligations.SelfTestAfterCalibrationViolatesSequencing := by
  intro s hrest hlife hcal hfree
  obtain ⟨hidle, hout⟩ := hrest
  exact ⟨_, exec_selfTest_of_calibrating hidle hlife hcal hfree,
    responded_deliver nofun rfl (List.append_nil _).symm hout rfl rfl, rfl, rfl⟩

/-- Settles O19: CRCGEN's registers hold the checksum of the operand's bytes, which is delivered. -/
theorem checksumAnswersTheCrcOfItsOperand : Obligations.ChecksumAnswersTheCrcOfItsOperand := by
  intro s data hrest hfree
  obtain ⟨hidle, hout⟩ := hrest
  have hstart : startChecksum data (s.begin .checksum)
      = ((s.begin .checksum).setCrc (crcgen s.params.crc (hiByte data) (loByte data))).conclude
        (.ok [crc8 s.params.crc [hiByte data, loByte data]]) := by
    rw [← crcgen_value]
    rfl
  rw [exec_of_accepted (i := .checksum data) rfl hidle (.inl rfl), hstart,
    runOperation_conclude (s := (s.begin .checksum).setCrc _) hfree]
  refine ⟨_, rfl, responded_deliver ?_ rfl (List.append_nil _).symm hout rfl rfl, rfl, rfl⟩
  rintro _ ⟨⟩
  exact Nat.le_of_ble_eq_true rfl

/-! ## CONSTRUCT -/

theorem scanAnswered_of_present {present : List BusAddr} (h : s.params.devAddr ∈ present) :
    s.scanAnswered present = s.select .getSerialId := if_pos h

theorem scanAnswered_of_absent {present : List BusAddr} (h : s.params.devAddr ∉ present) :
    s.scanAnswered present = s.conclude (.error .deviceNotFound .none) := if_neg h

/-- In `FINISH` the operation's one move is the delivery of its verdict (R145). -/
theorem runMoves_conclude (hfree : freeToMove s.inputs) :
    State.runMoves (k + 1) (s.conclude v) = (s.conclude v).deliver v := by
  have hrun : State.runCommandMoves (k + 1) (s.conclude v) = (s.conclude v).deliver v := runCommandMoves_conclude hfree
  rw [runMoves_eq_runCommandMoves (readyCommand_eq_none_of_phase (by rw [hrun]; nofun)), hrun]

/-- The scan with its answer takes two moves (R171). -/
theorem runMoves_scan {present : List BusAddr} (hphase : s.phase = .scan) (hout : s.outstanding = none)
    (hin : s.inputs = .answer (.scan present) :: rest) :
    State.runMoves (k + 2) s = State.runMoves k ((s.onBus .scan [scanEvent present] rest).scanAnswered present) := by
  have hcall : s.phaseCall = some .scan := by simp [State.phaseCall, hphase]
  have hfree : s.heldUp = false := heldUp_of_inputs hin
  have hissue : s.advance = some s.issueCall :=
    advance_eq_some.2 ⟨hfree, by rw [nextMove_of_phaseCall hcall, State.busMove, hout]⟩
  have htake : s.issueCall.advance = some ((s.onBus .scan [scanEvent present] rest).scanAnswered present) := by
    refine advance_eq_some.2 ⟨hfree, ?_⟩
    rw [nextMove_of_phaseCall (s := s.issueCall) hcall, State.busMove,
      show s.issueCall.outstanding = some .scan from hcall,
      show s.issueCall.inputs = .answer (.scan present) :: rest from hin]
    simp only [State.onAnswer, State.logAnswer_phase, State.issueCall_phase, hphase]
    rw [State.onBus, ← hphase]
    rfl
  rw [runMoves_of_advance hissue, runMoves_of_advance htake]

/-- Settles O12: the scan's answer ends the operation or selects GET_SERIAL_ID, whose transaction follows. -/
theorem constructScansThenIdentifies : Obligations.ConstructScansThenIdentifies := by
  intro s present ok r rest hrest hlife hfree
  obtain ⟨hidle, hout⟩ := hrest
  rw [exec_of_accepted (i := .construct) rfl hidle (.inr (congrArg some hlife.symm)), State.runOperation]
  have hscan {left : List Input} (hin : s.inputs = .answer (.scan present) :: left) :=
    runMoves_scan (k := 30) (s := startConstruct (s.begin .construct)) rfl hout hin
  refine ⟨fun habsent hin => ?_, fun hpresent hin => ?_⟩
  · rw [show Config.moveBudget = 30 + 2 from rfl, hscan hin,
      scanAnswered_of_absent (s := (startConstruct (s.begin .construct)).onBus .scan _ _) habsent,
      runMoves_conclude hfree]
    exact ⟨_, rfl, responded_deliver nofun rfl rfl rfl rfl rfl, hlife, rfl⟩
  · have hsel : (((startConstruct (s.begin .construct)).onBus .scan [scanEvent present]
        (commandAnswers ok r ++ rest)).select .getSerialId).hasSelected .construct .getSerialId :=
      select_hasSelected rfl rfl
    have hrun := runCommandMoves_transacted (k := 20) hsel nofun hfree rfl
    rw [show Config.moveBudget = 30 + 2 from rfl, hscan hin,
      scanAnswered_of_present (s := (startConstruct (s.begin .construct)).onBus .scan _ _) hpresent,
      show State.runMoves 30 _ = _ from runMoves_of_responded hrun.toResponded]
    exact ⟨_, rfl, hrun.toResponded.of_later (before := [scanEvent present]) rfl rfl rfl rfl, hrun.life, hrun.cal⟩

/-! ## The init command -/

/-- A move that comes to a selected command is the last of a command's moves. -/
theorem runCommandMoves_of_selects (hadv : s.advance = some t) (hready : t.readyCommand = some c) :
    State.runCommandMoves (k + 1) s = t := by
  simp [State.runCommandMoves, hadv, hready]

/-- Where the init command has returned, the measure command is selected, `CAL` by `CAL_SET_POINT` (R178, R179). -/
theorem commandReturned_selects (hop : s.curOp = some .measureAirQuality) (hcmd : s.cmdSel = some .initAirQuality)
    (result : List Byte) : ∃ cal, s.commandReturned result = (s.setCal cal).select .measureAirQuality ∧
      (s.params.calSetPoint = .beforeInit → cal = s.cal) ∧
      (s.params.calSetPoint = .afterInitOk → cal = .calibrating) := by
  rcases commandReturned_cases result s with ⟨-, -, ⟨hp, he⟩ | ⟨hp, he⟩⟩ | ⟨hnot, -⟩
  · exact ⟨s.cal, he, fun _ => rfl, by simp [hp]⟩
  · exact ⟨.calibrating, he, by simp [hp], fun _ => rfl⟩
  · exact absurd ⟨hop, hcmd⟩ hnot

/-- The sleep of a command with no response word is its end (R136). -/
theorem sleepReturned_of_noWords (h : s.desc.nwords = 0#2) : s.sleepReturned = s.commandReturned [] := if_pos h

/-- The sleep of a command with no response word, where its return selects another command (R136). -/
theorem runCommandMoves_sleep_noWords {made : List BusEvent} (hwords : s.desc.nwords = 0#2)
    (hreturn : (s.onBus .settle (made ++ [sleepEvent s.desc.delay]) rest).commandReturned [] = t)
    (hready : t.readyCommand = some c) :
    State.runCommandMoves (k + 2) (s.onBus .settle made (.answer .slept :: rest)) = t := by
  have hissue : (s.onBus .settle made (.answer .slept :: rest)).nextMove
      = some (s.onBus .settle made (.answer .slept :: rest)).issueCall := rfl
  have htake : (s.onBus .settle made (.answer .slept :: rest)).issueCall.advance = some
      ((s.onBus .settle made (.answer .slept :: rest)).logAnswer (.sleep s.desc.delay) .slept rest).sleepReturned := rfl
  have hslept : (s.onBus .settle (made ++ [sleepEvent s.desc.delay]) rest).sleepReturned = t :=
    (sleepReturned_of_noWords (s := s.onBus .settle (made ++ [sleepEvent s.desc.delay]) rest) hwords).trans hreturn
  rw [onBus_logAnswer, ← sleepEvent, hslept] at htake
  rw [runCommandMoves_of_nextMove rfl hissue (readyCommand_eq_none_of_outstanding rfl),
    runCommandMoves_of_selects htake hready]

/-- Settles O23: its write and its sleep answered, the init command has returned and the measure command is selected. -/
theorem initCommandEndsWithoutARead : Obligations.InitCommandEndsWithoutARead := by
  intro s rest hsel hin
  have hwrite : s.runCommand = State.runCommandMoves 30
      (s.onBus .settle [writeEvent s.params .initAirQuality true] (.answer .slept :: rest)) :=
    runCommandMoves_write (k := 30) (ok := true) hsel hin (onAnswer_writeOk rfl) (readyCommand_eq_none_of_phase nofun)
  obtain ⟨-, -, hop, hcmd, hdesc⟩ := id hsel
  have hwords : s.desc.nwords = 0#2 := congrArg Desc.nwords hdesc
  have htrace : [writeEvent s.params .initAirQuality true, sleepEvent s.desc.delay] = initTrace s.params true := by
    rw [hdesc]
    rfl
  obtain ⟨cal, hreturn, hbefore, hafter⟩ := commandReturned_selects
    (s := s.onBus .settle [writeEvent s.params .initAirQuality true, sleepEvent s.desc.delay] rest) hop hcmd []
  have hsleep := runCommandMoves_sleep_noWords (k := 28) (made := [writeEvent s.params .initAirQuality true])
    hwords hreturn rfl
  refine ⟨_, (exec_of_hasSelected hsel).trans (by rw [hwrite, hsleep]), ?_⟩
  exact ⟨select_hasSelected hop rfl, congrArg (s.busLog ++ ·) htrace, rfl, rfl, rfl, rfl, rfl, rfl, rfl, hbefore,
    hafter⟩

end Sys2Proof.Machine
end

section
/-! The answer to an outstanding call, however late (41_transaction.md section 2, 20_memory.md R61): a step goes on
with it, and to the same state as with the answer there at once. -/

namespace Sys2Proof.Machine

variable {s t v : State} {op : HostOp} {c : Command} {call : BusCall} {a : Answer} {rest : List Input} {k : Nat}
  {bytes : List Byte}

/-! ## A step with the answer -/

/-- The call of the phase is outstanding, and an answer it can have stands next on the schedule. -/
structure State.Awaits (call : BusCall) (a : Answer) (rest : List Input) (s : State) : Prop where
  call_of_phase : s.phaseCall = some call
  outstanding : s.outstanding = some call
  inputs : s.inputs = .answer a :: rest
  fits : answerFits call a = true

/-- The phase that waits for an answer of this kind (R16). -/
def answerPhase : Answer → Phase
  | .scan _ => .scan
  | .writeOk | .writeFail => .write
  | .slept => .settle
  | .readFail | .readOk _ => .read

/-- An answer that the call of the phase can have is of the kind the phase waits for. -/
theorem phase_of_answerFits (hcall : s.phaseCall = some call) (hfits : answerFits call a = true) :
    s.phase = answerPhase a := by
  unfold State.phaseCall at hcall
  split at hcall <;> cases hcall
  all_goals
    rename_i hphase
    rw [hphase]
    cases a <;> simp_all [answerFits, answerPhase]

theorem onAnswer_scan {present : List BusAddr} (h : s.phase = .scan) :
    s.onAnswer (.scan present) = some (s.scanAnswered present) := by
  simp [State.onAnswer, h]

theorem onAnswer_present {present : List BusAddr} (hphase : s.phase = .scan) (h : s.params.devAddr ∈ present) :
    s.onAnswer (.scan present) = some (s.select .getSerialId) :=
  (onAnswer_scan hphase).trans (congrArg some (scanAnswered_of_present h))

theorem onAnswer_absent {present : List BusAddr} (hphase : s.phase = .scan) (h : s.params.devAddr ∉ present) :
    s.onAnswer (.scan present) = some (s.conclude (.error .deviceNotFound .none)) :=
  (onAnswer_scan hphase).trans (congrArg some (scanAnswered_of_absent h))

theorem onAnswer_slept_words (hphase : s.phase = .settle) (h : s.desc.nwords ≠ 0#2) :
    s.onAnswer .slept = some s.enterRead :=
  (onAnswer_slept hphase).trans (congrArg some (sleepReturned_of_words h))

theorem onAnswer_slept_noWords (hphase : s.phase = .settle) (h : s.desc.nwords = 0#2) :
    s.onAnswer .slept = some (s.commandReturned []) :=
  (onAnswer_slept hphase).trans (congrArg some (sleepReturned_of_noWords h))

theorem onAnswer_whole (hphase : s.phase = .read) (h : bytes.length = 3 * s.desc.nwords.toNat) :
    s.onAnswer (.readOk bytes) = some (s.enterVerify bytes) :=
  (onAnswer_readOk hphase).trans (congrArg some (readAnswered_of_length h))

theorem onAnswer_wrongLength (hphase : s.phase = .read) (h : bytes.length ≠ 3 * s.desc.nwords.toNat) :
    s.onAnswer (.readOk bytes) = some (s.conclude (.error .transportError (.stage .readLength))) :=
  (onAnswer_readOk hphase).trans (congrArg some (readAnswered_of_length_ne h))

/-- A delivered verdict is shown by the response registers (R81, R145). -/
theorem deliver_showsVerdict (s : State) {verdict : Verdict} (h : ∀ r, verdict = .ok r → r.length ≤ 6) :
    showsVerdict (s.deliver verdict).resp verdict := respOf_showsVerdict verdict _ h

/-- A phase takes every answer of the kind it waits for. -/
theorem exists_onAnswer (h : s.phase = answerPhase a) : ∃ v, s.onAnswer a = some v := by
  cases a with
  | scan present => exact ⟨_, onAnswer_scan h⟩
  | writeOk => exact ⟨_, onAnswer_writeOk h⟩
  | writeFail => exact ⟨_, onAnswer_writeFail h⟩
  | slept => exact ⟨_, onAnswer_slept h⟩
  | readFail => exact ⟨_, onAnswer_readFail h⟩
  | readOk bytes => exact ⟨_, onAnswer_readOk h⟩

/-- Where a move has led, the remaining moves of the command lead on. -/
theorem leadsTo_runCommand_of_advance (hadv : s.advance = some v) : v.LeadsTo s.runCommand := by
  rw [State.runCommand, show Config.moveBudget = 31 + 1 from rfl, State.runCommandMoves, hadv]
  dsimp only
  split
  · exact .refl v
  · exact runCommandMoves_keeps (fun t u h hu => State.LeadsTo.keeps v t u h (advance_eq_some.1 hu).2) 31 v (.refl v)

namespace State.Awaits

theorem phase (h : s.Awaits call a rest) : s.phase = answerPhase a := phase_of_answerFits h.call_of_phase h.fits

/-- The sequencer takes the answer (R61). -/
theorem nextMove (h : s.Awaits call a rest) (hans : (s.logAnswer call a rest).onAnswer a = some v) :
    s.nextMove = some v := by
  rw [nextMove_of_phaseCall h.call_of_phase, State.busMove, h.outstanding, h.inputs]
  exact hans

theorem heldUp (h : s.Awaits call a rest) : s.heldUp = false := heldUp_of_inputs h.inputs

theorem advance (h : s.Awaits call a rest) (hans : (s.logAnswer call a rest).onAnswer a = some v) :
    s.advance = some v := advance_eq_some.2 ⟨h.heldUp, h.nextMove hans⟩

/-- A step goes on from the answer as a command does. -/
theorem step_eq (h : s.Awaits call a rest) : step s = .next s.runCommand := by
  obtain ⟨v, hans⟩ := exists_onAnswer (s := s.logAnswer call a rest) h.phase
  rw [step_of_sequencerTurn h.heldUp (readyCommand_eq_none_of_outstanding h.outstanding)]
  simp [sequencerTurn, h.advance hans]

/-- Where the answer selects a command, the step has come to it (R131). -/
theorem runCommand_of_selects (h : s.Awaits call a rest) (hans : (s.logAnswer call a rest).onAnswer a = some v)
    (hready : v.readyCommand = some c) : s.runCommand = v :=
  runCommandMoves_of_selects (h.advance hans) hready

/-- Where it selects none, the remaining moves follow. -/
theorem runCommand_of_moves (h : s.Awaits call a rest) (hans : (s.logAnswer call a rest).onAnswer a = some v)
    (hphase : v.phase ≠ .write) : s.runCommand = State.runCommandMoves 31 v :=
  runCommandMoves_of_nextMove h.heldUp (h.nextMove hans) (readyCommand_eq_none_of_phase hphase)

/-- The call enters the history with its answer, and the schedule is only consumed (R61). -/
theorem log_and_inputs (h : s.Awaits call a rest) :
    (s.busLog ++ [{ call := call, answer := some a }]) <+: s.runCommand.busLog ∧ s.runCommand.inputs <:+ rest := by
  obtain ⟨v, hans⟩ := exists_onAnswer (s := s.logAnswer call a rest) h.phase
  have hphase : (s.logAnswer call a rest).phase ≠ .idle := by
    rw [State.logAnswer_phase, h.phase]
    cases a <;> nofun
  have hmove := State.LeadsTo.onAnswer hphase hans
  have hmoves := leadsTo_runCommand_of_advance (h.advance hans)
  exact ⟨hmove.log.trans hmoves.log, hmoves.inputs.trans hmove.inputs⟩

/-- Where the answer ends the operation with `v`, the response shows `v` (R145). -/
theorem ended {verdict : Verdict} (h : s.Awaits call a rest) (hfree : freeToMove rest)
    (hans : (s.logAnswer call a rest).onAnswer a = some ((s.logAnswer call a rest).conclude verdict))
    (hverdict : ∀ r, verdict = .ok r → r.length ≤ 6) :
    s.runCommand.phase = .idle ∧ s.runCommand.responses = s.responses ++ [s.runCommand.resp] ∧
      showsVerdict s.runCommand.resp verdict := by
  have hrun : s.runCommand = ((s.logAnswer call a rest).conclude verdict).deliver verdict :=
    (h.runCommand_of_moves hans nofun).trans (runCommandMoves_conclude (s := s.logAnswer call a rest) hfree)
  rw [hrun]
  exact ⟨rfl, rfl, deliver_showsVerdict _ hverdict⟩

end State.Awaits

/-- With nothing more on the schedule, a command goes as far as its next call (R146). -/
theorem runCommandMoves_of_silent (hcall : s.phaseCall = some call) (hout : s.outstanding = none)
    (hin : s.inputs = []) : State.runCommandMoves (k + 1) s = s.issueCall := by
  have hissue : s.nextMove = some s.issueCall := by
    rw [nextMove_of_phaseCall hcall, State.busMove, hout]
  have hwait : s.issueCall.advance = none := advance_of_silent (s := s.issueCall) hcall hcall hin
  rw [runCommandMoves_of_nextMove (by simp [State.heldUp, hin]) hissue (readyCommand_eq_none_of_outstanding hcall)]
  cases k with
  | zero => rfl
  | succ k => simp [State.runCommandMoves, hwait]

/-! ## What each answer leads to -/

namespace State.Awaits

/-- The device present, GET_SERIAL_ID is selected (R171). -/
theorem of_present {present : List BusAddr} (h : s.Awaits call (.scan present) rest)
    (hpresent : s.params.devAddr ∈ present) :
    s.runCommand = (s.logAnswer call (.scan present) rest).select .getSerialId :=
  h.runCommand_of_selects (c := .getSerialId)
    (onAnswer_present (s := s.logAnswer call (.scan present) rest) h.phase hpresent) rfl

/-- The write answered, the sleep is issued (R133, R135). -/
theorem of_writeOk (h : s.Awaits call .writeOk []) :
    s.runCommand = (s.logAnswer call .writeOk []).enterSettle.issueCall :=
  (h.runCommand_of_moves (onAnswer_writeOk h.phase) nofun).trans (runCommandMoves_of_silent rfl rfl rfl)

/-- The sleep of a command with response words over, the read is issued (R136, R137). -/
theorem of_slept_words (h : s.Awaits call .slept []) (hwords : s.desc.nwords ≠ 0#2) :
    s.runCommand = (s.logAnswer call .slept []).enterRead.issueCall :=
  (h.runCommand_of_moves (onAnswer_slept_words (s := s.logAnswer call .slept []) h.phase hwords) nofun).trans
    (runCommandMoves_of_silent rfl rfl rfl)

/-- The sleep of the init command over, the measure command is selected (R136, R178). -/
theorem of_slept_init (h : s.Awaits call .slept rest) (hwords : s.desc.nwords = 0#2)
    (hop : s.curOp = some .measureAirQuality) (hcmd : s.cmdSel = some .initAirQuality) :
    s.runCommand.hasSelected .measureAirQuality .measureAirQuality ∧ s.runCommand.inputs = rest := by
  obtain ⟨cal, hreturn, -, -⟩ := commandReturned_selects (s := s.logAnswer call .slept rest) hop hcmd []
  have hans : (s.logAnswer call .slept rest).onAnswer .slept
      = some (((s.logAnswer call .slept rest).setCal cal).select .measureAirQuality) := by
    rw [onAnswer_slept_noWords (s := s.logAnswer call .slept rest) h.phase hwords, hreturn]
  rw [h.runCommand_of_selects (c := .measureAirQuality) hans rfl]
  exact ⟨select_hasSelected hop rfl, rfl⟩

/-- A whole answer comes to the check of its words (R138). -/
theorem of_whole (h : s.Awaits call (.readOk bytes) rest) (hlen : bytes.length = 3 * s.desc.nwords.toNat) :
    s.runCommand = State.runCommandMoves 31 ((s.logAnswer call (.readOk bytes) rest).enterVerify bytes) :=
  h.runCommand_of_moves (onAnswer_whole (s := s.logAnswer call (.readOk bytes) rest) h.phase hlen) nofun

/-- The first bad word of a whole answer is reported (R140). -/
theorem of_badWord {i : Nat} (h : s.Awaits call (.readOk bytes) rest) (hfree : freeToMove rest)
    (hlen : bytes.length = 3 * s.desc.nwords.toNat)
    (hbad : firstBadWord s.params.crc bytes s.desc.nwords.toNat = some i) :
    s.runCommand.phase = .idle ∧ s.runCommand.responses = s.responses ++ [s.runCommand.resp] ∧
      showsVerdict s.runCommand.resp (.error .checksumMismatch (.word (BitVec.ofNat 2 i))) := by
  obtain ⟨hi, hfails, hgood⟩ := firstBadWord_eq_some hbad
  obtain ⟨regs, hverify⟩ := runCommandMoves_of_badWord
    (s := (s.logAnswer call (.readOk bytes) rest).enterVerify bytes) rfl rfl hfree hi hgood hfails rfl
  obtain ⟨m, hm⟩ : ∃ m, 31 = m + 2 + i := ⟨29 - i, by have := s.desc.nwords.isLt; omega⟩
  rw [h.of_whole hlen, hm, hverify]
  exact ⟨rfl, rfl, deliver_showsVerdict _ nofun⟩

/-- The result of a whole answer of good words is returned by an operation with no check of its own (R142). -/
theorem of_goodWords (h : s.Awaits call (.readOk bytes) rest) (hfree : freeToMove rest)
    (hlen : bytes.length = 3 * s.desc.nwords.toNat) (hwords : s.desc.nwords ≠ 0#2)
    (hgood : firstBadWord s.params.crc bytes s.desc.nwords.toNat = none)
    (hop : s.curOp = some .identify ∨ s.curOp = some .measureRawSignals) :
    s.runCommand.phase = .idle ∧ s.runCommand.responses = s.responses ++ [s.runCommand.resp] ∧
      showsVerdict s.runCommand.resp (.ok (resultOf bytes s.desc.nwords.toNat)) := by
  obtain ⟨op, hcur, hplain, hmeasure⟩ : ∃ op, s.curOp = some op ∧
      (∀ p v, operationVerdict p op v = v) ∧ op ≠ .measureAirQuality := by
    rcases hop with h | h
    · exact ⟨_, h, fun _ _ => rfl, nofun⟩
    · exact ⟨_, h, fun _ _ => rfl, nofun⟩
  have hinit : ¬ (s.curOp = some .measureAirQuality ∧ s.cmdSel = some .initAirQuality) :=
    fun h => hmeasure (Option.some.inj (hcur.symm.trans h.1))
  obtain ⟨regs, i, hrun⟩ := runCommandMoves_verify_good (k := 27) (op := op)
    (s := (s.logAnswer call (.readOk bytes) rest).enterVerify bytes) hcur hinit rfl rfl hfree hwords hgood
  rw [h.of_whole hlen, hrun, State.returned, hplain]
  refine ⟨rfl, rfl, deliver_showsVerdict _ ?_⟩
  rintro _ ⟨⟩
  have hlt := s.desc.nwords.isLt
  rw [resultOf_length]
  change 2 * s.desc.nwords.toNat ≤ 6
  omega

end State.Awaits

/-- Settles O31: each clause is the answer of one kind, taken in the phase that waits for it. -/
theorem aStepGoesOnWithTheAnswerOfTheOutstandingCall : Obligations.AStepGoesOnWithTheAnswerOfTheOutstandingCall := by
  intro s call a rest hcall hout hin hfits
  have h : s.Awaits call a rest := ⟨hcall, hout, hin, hfits⟩
  obtain ⟨hlog, hinputs⟩ := h.log_and_inputs
  refine ⟨s.runCommand, h.step_eq, hlog, hinputs, ?_, ?_, ?_, ?_, fun hfree => ⟨?_, ?_, ?_, ?_, ?_, ?_⟩⟩
  · rintro present rfl hpresent
    rw [h.of_present hpresent]
    exact ⟨rfl, rfl, rfl, rfl⟩
  · rintro rfl rfl
    rw [h.of_writeOk]
    exact ⟨rfl, rfl⟩
  · rintro rfl hwords rfl
    rw [h.of_slept_words hwords]
    exact ⟨rfl, rfl⟩
  · rintro rfl hwords hop hcmd
    exact h.of_slept_init hwords hop hcmd
  · rintro present rfl habsent
    exact h.ended hfree (onAnswer_absent (s := s.logAnswer call (.scan present) rest) h.phase habsent) nofun
  · rintro rfl
    exact h.ended hfree (onAnswer_writeFail h.phase) nofun
  · rintro rfl
    exact h.ended hfree (onAnswer_readFail h.phase) nofun
  · rintro bytes rfl hlen
    exact h.ended hfree (onAnswer_wrongLength (s := s.logAnswer call (.readOk bytes) rest) h.phase hlen) nofun
  · rintro bytes i rfl hlen hbad
    exact h.of_badWord hfree hlen hbad
  · rintro bytes rfl hlen hwords hgood hop
    exact h.of_goodWords hfree hlen hwords hgood hop

/-! ## The answer late and at once -/

/-- More moves than are left make no difference. -/
theorem runCommandMoves_succ_of_movesLeft (h : s.movesLeft ≤ k) :
    State.runCommandMoves (k + 1) s = State.runCommandMoves k s := by
  induction k generalizing s with
  | zero =>
    have hadv : s.advance = none := advance_runMoves (k := 0) h
    simp [State.runCommandMoves, hadv]
  | succ k ih =>
    cases hadv : s.advance with
    | none => simp [State.runCommandMoves, hadv]
    | some t =>
      have hleft := movesLeft_advance hadv
      rw [State.runCommandMoves, State.runCommandMoves, hadv]
      dsimp only
      rw [ih (by omega)]

/-- Settles O32: to issue the write is the first move of the command, and the budget covers the others either way. -/
theorem aCommandAnsweredLateEndsAsIfAnsweredAtOnce : Obligations.ACommandAnsweredLateEndsAsIfAnsweredAtOnce := by
  intro s op c a rest hsel hin ha
  obtain ⟨hphase, hout, -, -, -⟩ := id hsel
  have hcall : s.phaseCall = some (.write s.params.devAddr (cmdBytes s.desc.opcode)) := by
    simp [State.phaseCall, hphase]
  have hfits : answerFits (.write s.params.devAddr (cmdBytes s.desc.opcode)) a = true := by
    rcases ha with rfl | rfl <;> rfl
  have hawaits : s.issueCall.Awaits _ a rest := ⟨hcall, hcall, hin, hfits⟩
  have hissue : s.nextMove = some s.issueCall := by rw [nextMove_of_phaseCall hcall, State.busMove, hout]
  have hfirst : s.runCommand = State.runCommandMoves 31 s.issueCall :=
    runCommandMoves_of_nextMove (heldUp_of_inputs hin) hissue (readyCommand_eq_none_of_outstanding hcall)
  have hbudget : s.issueCall.runCommand = State.runCommandMoves 31 s.issueCall :=
    runCommandMoves_succ_of_movesLeft ((movesLeft_le s.issueCall).trans (Nat.le_of_ble_eq_true rfl))
  rw [hawaits.step_eq, exec_of_hasSelected hsel, hfirst, hbudget]

end Sys2Proof.Machine
end

section
/-! What the outside does between two moves of the block: host reads, resets, inputs of no use to it, and a request
while it is busy (10_state.md R33, R38, 70_reset_and_hazards.md R240, R248, R258). -/

namespace Sys2Proof.Machine

variable {s t v : State} {call : BusCall} {a : Answer} {rest : List Input} {i : Input} {r : StatusReg}
  {bytes : List Byte}

/-! ## Host reads -/

/-- Taking an input off the schedule changes no status output. -/
@[simp] theorem readStatus_takeInput (s : State) (rest : List Input) (r : StatusReg) :
    (s.takeInput rest).readStatus r = s.readStatus r := by
  cases r <;> rfl

theorem step_of_statusRead (hin : s.inputs = .statusRead r :: rest) :
    step s = serveStatusRead r (s.takeInput rest) := by
  simp [step, hin]

/-- A host read that is not refused shows the value and changes nothing of the block (R33). -/
theorem step_shows {value : StatusValue} (hin : s.inputs = .statusRead r :: rest) (hr : s.readStatus r = some value) :
    step s = .next ((s.takeInput rest).showStatus value) := by
  simp [step_of_statusRead hin, serveStatusRead, hr]

/-- A host read of a register that holds no value is refused (R38). -/
theorem step_refuses_read (hin : s.inputs = .statusRead r :: rest) (hr : s.readStatus r = none) :
    step s = .refused .respNoValue := by
  simp [step_of_statusRead hin, serveStatusRead, hr]

/-- A response register is shown after the first response since reset (R38). -/
theorem readResp_of_valid (h : s.respValid = true) (value : StatusValue) : s.readResp value = some value := if_pos h

/-- Settles O50: each output is read as it is, and the refused reads are those of `readStatus_eq_none_iff`. -/
theorem statusOutputsAreReadWithoutEffect : Obligations.StatusOutputsAreReadWithoutEffect := by
  intro s r rest hin
  refine ⟨?_, ?_, ?_, fun hvalid => ⟨?_, ?_, ?_, ?_⟩, fun hinvalid hlife hcal hbusy => ?_⟩
  · rintro rfl
    exact step_shows hin rfl
  · rintro rfl
    exact step_shows hin rfl
  · rintro rfl
    exact step_shows hin rfl
  · rintro rfl
    exact step_shows hin (readResp_of_valid hvalid _)
  · rintro rfl
    exact step_shows hin (readResp_of_valid hvalid _)
  · rintro rfl
    exact step_shows hin (readResp_of_valid hvalid _)
  · rintro rfl
    exact step_shows hin (readResp_of_valid hvalid _)
  · refine step_refuses_read hin (readStatus_eq_none_iff.2 ⟨hinvalid, ?_⟩)
    cases r <;> simp at hlife hcal hbusy ⊢

/-! ## Reset -/

theorem step_of_reset (hin : s.inputs = .reset :: rest) : step s = .next (s.takeInput rest).applyReset := by
  simp [step, hin]

/-- At `IDLE` an input that serves no purpose is taken off the schedule (R240). -/
theorem step_discards_at_idle (hidle : s.phase = .idle) (hin : s.inputs = i :: rest) (hi : i.holdsUp = false) :
    step s = .next (s.takeInput rest) :=
  step_discards hin hi (readyCommand_eq_none_of_phase (by simp [hidle]))
    (by simp [State.advance, State.nextMove, hidle])

/-- Settles O48: the registers are those of `State.reset`, and at `IDLE` an answer is discarded. -/
theorem resetAbandonsTheRequestInFlight : Obligations.ResetAbandonsTheRequestInFlight := by
  intro s rest hin
  refine ⟨_, step_of_reset hin, rfl, rfl, rfl, rfl, rfl, rfl, rfl, rfl, rfl, rfl, rfl, fun hout => ?_,
    fun call hout => ?_, ?_⟩
  · rw [State.applyReset_busLog, abandonedCall_of_none (s := s.takeInput rest) hout]
    exact List.append_nil _
  · rw [State.applyReset_busLog, abandonedCall_of_some (s := s.takeInput rest) hout]
    rfl
  · rintro a rest' (rfl | rfl)
    all_goals exact step_discards_at_idle rfl rfl rfl

/-- Settles O46: the parameters at reset are the settings of the table. -/
theorem resetCarriesTheSettingsOfTheParameterTable : Obligations.ResetCarriesTheSettingsOfTheParameterTable :=
  ⟨rfl, rfl, rfl, rfl, rfl, rfl, rfl, rfl, rfl, rfl, rfl, rfl, rfl, rfl, rfl⟩

/-! ## The end of a run -/

/-- A run that has ended has still ended with an input taken off the schedule. -/
theorem State.runEnded.takeInput (h : s.runEnded) (hin : s.inputs = i :: rest) : (s.takeInput rest).runEnded := by
  refine ⟨h.idle, ?_, h.no_call⟩
  have hpending := h.no_request
  rw [State.requestPending, hin, List.any_cons, Bool.or_eq_false_iff] at hpending
  exact hpending.2

/-- At `IDLE` a single move is none (R25). -/
theorem moveOnce_of_idle (hidle : s.phase = .idle) : s.moveOnce = s := by
  simp [State.moveOnce, State.nextMove, hidle]

/-- Settles O51: whatever stands next on the schedule is served or discarded, and the block makes no move. -/
theorem anEndedRunStaysEnded : Obligations.AnEndedRunStaysEnded := by
  intro s h
  have hready : s.readyCommand = none := readyCommand_eq_none_of_phase (by simp [h.idle])
  cases hin : s.inputs with
  | nil =>
    have hadv : s.advance = none := by simp [State.advance, State.nextMove, h.idle]
    have hstep : step s = .next s := by
      rw [step_of_sequencerTurn (by simp [State.heldUp, hin]) hready]
      simp [sequencerTurn, hadv, hin, waitOn, h.no_call]
    exact .inl ⟨s, hstep, h, rfl, hin, fun _ => rfl⟩
  | cons i rest =>
    have hrest := h.takeInput hin
    cases i with
    | request w =>
      have hpending := h.no_request
      simp [State.requestPending, hin, Input.isRequest] at hpending
    | statusRead r =>
      cases hr : s.readStatus r with
      | none => exact .inr ⟨step_refuses_read hin hr, r, rest, rfl, hr⟩
      | some value => exact .inl ⟨_, step_shows hin hr, ⟨hrest.idle, hrest.no_request, hrest.no_call⟩, rfl, rfl, nofun⟩
    | reset =>
      have hlog : (s.takeInput rest).applyReset.observation = s.observation := by
        rw [State.observation, State.applyReset_busLog, abandonedCall_of_none hrest.no_call, List.append_nil]
        rfl
      exact .inl ⟨_, step_of_reset hin, ⟨rfl, hrest.no_request, rfl⟩, hlog, rfl, nofun⟩
    | move =>
      have hstep : step s = .next (s.takeInput rest) := by
        simp [step, hin, moveOnce_of_idle hrest.idle]
      exact .inl ⟨_, hstep, hrest, rfl, rfl, nofun⟩
    | answer a | lateAnswer a | quiet =>
      exact .inl ⟨_, step_discards_at_idle h.idle hin rfl, hrest, rfl, rfl, nofun⟩

/-! ## What a move leaves on the schedule -/

@[simp] theorem commandReturned_inputs (result : List Byte) : (s.commandReturned result).inputs = s.inputs := by
  rcases commandReturned_cases result s with
    ⟨-, -, ⟨-, h⟩ | ⟨-, h⟩⟩ | ⟨-, ⟨-, h⟩ | ⟨-, -, h⟩ | ⟨-, -, h⟩ | ⟨-, -, h⟩⟩ <;> rw [h] <;> rfl

theorem verifyWord_inputs : s.verifyWord.inputs = s.inputs := by
  unfold State.verifyWord
  dsimp only
  split
  · split
    · rfl
    · exact commandReturned_inputs _
  · rfl

theorem onAnswer_inputs (h : s.onAnswer a = some t) : t.inputs = s.inputs := by
  rcases onAnswer_cases h with ⟨present, -, -, rfl⟩ | ⟨-, -, rfl⟩ | ⟨-, -, rfl⟩ | ⟨-, -, rfl⟩ | ⟨-, -, rfl⟩ |
    ⟨bytes, -, -, rfl⟩
  · unfold State.scanAnswered
    split <;> rfl
  · rfl
  · rfl
  · unfold State.sleepReturned
    split
    · exact commandReturned_inputs _
    · rfl
  · rfl
  · unfold State.readAnswered
    split <;> rfl

/-- A move takes an input off the schedule only where that is the answer to its call (R61). -/
theorem nextMove_inputs (h : s.nextMove = some t) :
    t.inputs = s.inputs ∨ ∃ a rest, s.inputs = .answer a :: rest ∧ t.inputs = rest := by
  rcases nextMove_cases h with ⟨-, -, rfl⟩ | ⟨call, a, rest, -, hin, ha⟩ | ⟨-, rfl⟩ | ⟨v, -, -, rfl⟩
  · exact .inl rfl
  · exact .inr ⟨a, rest, hin, onAnswer_inputs ha⟩
  · exact .inl verifyWord_inputs
  · exact .inl rfl

/-! ## One move, then the host -/

/-- A step makes one move where what the outside does next comes before the second. -/
theorem step_makes_one_move (hfree : s.heldUp = false) (hready : s.readyCommand = none) (hmove : s.nextMove = some v)
    (hheld : v.heldUp = true) : step s = .next v := by
  have hadv : s.advance = some v := advance_eq_some.2 ⟨hfree, hmove⟩
  have hstay : State.runCommandMoves 31 v = v := by simp [State.runCommandMoves, State.advance, hheld]
  have hrun : s.runCommand = v := by
    rw [State.runCommand, show Config.moveBudget = 31 + 1 from rfl, State.runCommandMoves, hadv]
    dsimp only
    rw [hstay, ite_self]
  rw [step_of_sequencerTurn hfree hready]
  simp [sequencerTurn, hadv, hrun]

/-- A single move is made before what follows it on the schedule. -/
theorem step_of_move (hin : s.inputs = .move :: rest) (hmove : (s.takeInput rest).nextMove = some v) :
    step s = .next v := by
  simp [step, hin, State.moveOnce, hmove]

/-- A host read of `BUSY` shows it as it is, the block staying in its phase (R32, R33). -/
theorem step_reads_busy (hin : s.inputs = .statusRead .busy :: rest) : ∃ u, step s = .next u ∧ u.phase = s.phase ∧
    u.statusReads = s.statusReads ++ [.busy (s.phase != .idle)] :=
  ⟨_, step_shows hin rfl, rfl, rfl⟩

/-- So a host read that follows a move of the block shows `BUSY` as the move has left it. -/
theorem step_reads_busy_after_move (hmove : s.nextMove = some v) (hin : v.inputs = .statusRead .busy :: rest) :
    ∃ u, step v = .next u ∧ u.phase = v.phase ∧ u.statusReads = s.statusReads ++ [.busy (v.phase != .idle)] := by
  obtain ⟨u, hstep, hphase, hreads⟩ := step_reads_busy hin
  exact ⟨u, hstep, hphase, by rw [hreads, (State.LeadsTo.nextMove hmove).reads]⟩

/-- And where the move has led to a phase that is not `IDLE`, it shows that the block is busy. -/
theorem step_reads_busy_in_phase {p : Phase} (hreads : v.statusReads = s.statusReads)
    (hin : v.inputs = .statusRead .busy :: rest) (hphase : v.phase = p) (hp : p ≠ .idle) :
    ∃ u, v.phase = p ∧ step v = .next u ∧ u.phase = p ∧ u.statusReads = s.statusReads ++ [.busy true] := by
  obtain ⟨u, hstep, huphase, hureads⟩ := step_reads_busy hin
  exact ⟨u, hphase, hstep, huphase.trans hphase, by rw [hureads, hreads, hphase, bne_iff_ne.2 hp]⟩

/-- A request while `BUSY` is refused as busy (R213). -/
theorem hostRequest_of_busy {op : HostOp} {need : Option Life} {start : State → State} (h : s.phase ≠ .idle) :
    hostRequest op need start s = .refused .busy := by
  simp [hostRequest, acceptRefusal, State.busy, h]

/-- Settles O49: what the outside does next holds the block up after its one move, and the read shows `BUSY`. -/
theorem theHostReachesTheBlockBetweenAnyTwoMoves : Obligations.TheHostReachesTheBlockBetweenAnyTwoMoves := by
  intro s rest
  refine ⟨fun hidle hin => ?_, fun call bytes hphase hout hlen hin => ?_, fun hphase hmore hgood hin => ?_,
    fun v hin hmove => ?_, fun call a v hcall hout hin hmove => ?_, fun data hphase hin => ?_⟩
  · have hheld : s.heldUp = true := heldUp_of_inputs hin
    refine ⟨fun data => ?_, fun hlife hcal => ?_⟩
    · obtain ⟨u, hu⟩ := step_reads_busy_in_phase (s := s) (v := startChecksum data (s.begin .checksum)) rfl hin rfl
        nofun
      exact ⟨_, u, exec_of_heldUp (i := .checksum data) rfl hidle hheld (.inl rfl), hu⟩
    · obtain ⟨u, hu⟩ := step_reads_busy_in_phase (s := s)
        (v := (s.begin .selfTest).conclude (.error .sequencingViolation .none)) rfl hin rfl nofun
      have hexec := exec_of_heldUp (i := .selfTest) rfl hidle hheld (.inr (congrArg some hlife.symm))
      rw [startSelfTest_of_calibrating (s := s.begin .selfTest) hcal] at hexec
      exact ⟨_, u, hexec, hu⟩
  · have hmove : s.nextMove
        = some ((s.logAnswer call (.readOk bytes) (.statusRead .busy :: rest)).enterVerify bytes) := by
      have hcall : s.phaseCall = some (.read s.params.devAddr (Config.wordBytes * s.desc.nwords.toNat)) := by
        simp [State.phaseCall, hphase]
      rw [nextMove_of_phaseCall hcall, State.busMove, hout, hin]
      exact onAnswer_whole (s := s.logAnswer call (.readOk bytes) (.statusRead .busy :: rest)) hphase hlen
    have hstep := step_makes_one_move (heldUp_of_inputs hin) (readyCommand_eq_none_of_outstanding hout) hmove rfl
    obtain ⟨u, hverify, hu⟩ := step_reads_busy_in_phase (s := s)
      (v := (s.logAnswer call (.readOk bytes) (.statusRead .busy :: rest)).enterVerify bytes) rfl rfl rfl nofun
    exact ⟨_, u, hstep, hverify, rfl, hu⟩
  · have hword : (s.takeInput (.statusRead .busy :: rest)).verifyWord
        = ((s.takeInput (.statusRead .busy :: rest)).setCrc s.wordCrc).nextWord :=
      verifyWord_of_good (s := s.takeInput (.statusRead .busy :: rest)) hgood hmore
    have hstep := step_of_move hin (nextMove_of_verify (s := s.takeInput (.statusRead .busy :: rest)) hphase)
    rw [hword] at hstep
    obtain ⟨u, hverify, hu⟩ := step_reads_busy_in_phase (s := s)
      (v := ((s.takeInput (.statusRead .busy :: rest)).setCrc s.wordCrc).nextWord) rfl rfl hphase nofun
    exact ⟨_, u, hstep, hverify, rfl, hu⟩
  · have hvin : v.inputs = .statusRead .busy :: rest := by
      rcases nextMove_inputs hmove with hsame | ⟨a, left, hanswer, -⟩
      · exact hsame
      · cases hanswer
    obtain ⟨u, hu⟩ := step_reads_busy_after_move hmove hvin
    exact ⟨u, step_of_move hin hmove, hu⟩
  · have hvin : v.inputs = .statusRead .busy :: rest := by
      rw [nextMove_of_phaseCall hcall, State.busMove, hout, hin] at hmove
      exact onAnswer_inputs hmove
    obtain ⟨u, hu⟩ := step_reads_busy_after_move hmove hvin
    exact ⟨u, step_makes_one_move (heldUp_of_inputs hin) (readyCommand_eq_none_of_outstanding hout) hmove
      (heldUp_of_inputs hvin), hu⟩
  · rw [step_of_decoded_request hin (decodeHostReq_checksum data)]
    exact hostRequest_of_busy (s := s.takeInput rest) hphase

end Sys2Proof.Machine
end
